-- ==== Sys2Proof/Word.lean ====
section
/-! DEFINITION. The machine's words: the byte, and the time value. CORE works on whole bytes (spec/20_memory.md R62) and
on time values that have no stated width (spec/30_encoding.md R96), so a time is a plain `Nat`, a number of
microseconds (spec/10_state.md R47); it has no name of its own here, so that arithmetic on it needs no unfolding. -/

namespace Sys2Proof

/-- A byte: 8 bits, an unsigned value 0..255 (spec/00_scope.md R13). -/
abbrev Byte := BitVec 8

end Sys2Proof
end

