-- ==== Sys2Proof/Syntax.lean ====
section
/-! DEFINITION. The terms of the machine: the records it moves (frame, event, translated value), the 42 operations of
spec/opcode_table.json as the one inductive `Instr`, and the words and turns by which an operation, or an act of the
environment, reaches the machine (the labels of the transition system of spec/00_scope.md R16). -/

namespace Sys2Proof

/-- A group of six bytes in the order of transmission: a frame, the window W, or TXF (spec/10_state.md R22, R23;
spec/20_memory.md R60). Whether the sixth byte is the right one is `Machine.valid`, not part of the type. -/
structure Frame where
  system : Byte
  source : Byte
  destination : Byte
  register : Byte
  value : Byte
  checksum : Byte
  deriving DecidableEq, Repr, Inhabited

/-- The semantic type of a register id (spec/41_translator.md R141). -/
inductive Kind where
  | fanSpeed
  | rh
  | temp
  | duty
  | byDefault
  deriving DecidableEq, Repr, Inhabited

/-- The exponent e of `FIX(m, e)`, which is 1 (tenths) or 2 (hundredths) and nothing else (spec/10_state.md R38). -/
inductive Scale where
  | tenths
  | hundredths
  deriving DecidableEq, Repr, Inhabited

/-- A translated value: `INT(i)`, or `FIX(m, e)`, the number m / 10^e (spec/10_state.md R38). -/
inductive TVal where
  | int (i : Int)
  | fix (m : Int) (e : Scale)
  deriving DecidableEq, Repr, Inhabited

/-- An event record (spec/10_state.md R37). -/
structure Event where
  ts : Nat
  source : Byte
  destination : Byte
  register : Byte
  raw : Byte
  tval : TVal
  deriving DecidableEq, Repr, Inhabited

/-- The debug sink of the configuration: the default discards, any other sink is named by a number that the host
chose (spec/10_state.md R32). -/
inductive Sink where
  | discard
  | host (id : Nat)
  deriving DecidableEq, Repr, Inhabited

/-- The transport operand of OPEN: which transport, and whether it is handed over already open, in which case
OPEN's second part is empty (spec/70_reset_and_hazards.md R310). -/
structure Transport where
  id : Nat
  isOpen : Bool
  deriving DecidableEq, Repr, Inhabited

/-- The configuration operand of OPEN; a field not supplied (`none`) takes its default
(spec/70_reset_and_hazards.md R310). -/
structure OpenConfig where
  transport : Transport
  clientAddr : Option Byte
  writeEn : Option Bool
  debugSink : Option Sink
  deriving DecidableEq, Repr, Inhabited

/-- The operations of CORE: one constructor per row of spec/opcode_table.json, in the table's order
(spec/30_encoding.md R90, R104). -/
inductive Instr where
  /-- FRAME.QUERY: a frame on the line whose register byte is 0 (spec/30_encoding.md R92). -/
  | frameQuery (system source destination value checksum : Byte)
  /-- FRAME.DATA: a frame on the line whose register byte is not 0 (spec/30_encoding.md R92). -/
  | frameData (system source destination register value checksum : Byte)
  /-- CHECKSUM(y, s, d, r, v) (spec/40_codec.md R120). -/
  | checksum (system source destination register value : Byte)
  /-- ENCODE(y, s, d, r, v) (spec/40_codec.md R121). -/
  | encode (system source destination register value : Byte)
  /-- DECODE(b), b six bytes (spec/40_codec.md R122). -/
  | decode (b : Frame)
  /-- SPEED_TO_VALUE(n), n a mathematical integer (spec/41_translator.md R142). -/
  | speedToValue (n : Int)
  /-- VALUE_TO_SPEED(v) (spec/41_translator.md R143). -/
  | valueToSpeed (v : Byte)
  /-- VALUE_TO_RH(v) (spec/41_translator.md R144). -/
  | valueToRh (v : Byte)
  /-- VALUE_TO_TEMP(v) (spec/41_translator.md R145). -/
  | valueToTemp (v : Byte)
  /-- VALUE_TO_DUTY(v) (spec/41_translator.md R146). -/
  | valueToDuty (v : Byte)
  /-- VALUE_RAW(v) (spec/41_translator.md R147). -/
  | valueRaw (v : Byte)
  /-- KIND_OF(r) (spec/41_translator.md R141). -/
  | kindOf (r : Byte)
  /-- TRANSLATE(r, v) (spec/41_translator.md R148). -/
  | translate (r v : Byte)
  /-- MK_EVENT(t, w), w a valid window (spec/43_session.md R194). -/
  | mkEvent (t : Nat) (w : Frame)
  /-- IS_WRITE_ALLOWED(r) (spec/44_write_policy.md R230). -/
  | isWriteAllowed (r : Byte)
  /-- BUILD_QUERY(r) (spec/45_commands.md R241). -/
  | buildQuery (r : Byte)
  /-- BUILD_WRITE(d, r, v) (spec/45_commands.md R242). -/
  | buildWrite (d r v : Byte)
  /-- FOR_ME(ev) (spec/45_commands.md R262). -/
  | forMe (ev : Event)
  /-- RX.TOP (spec/43_session.md R191). -/
  | rxTop
  /-- RX.READ_OK: the chunk is what the transport offers (spec/43_session.md R192). -/
  | rxReadOk
  /-- RX.READ_FAIL (spec/43_session.md R193). -/
  | rxReadFail
  /-- RX.ACCEPT (spec/42_framing.md R173). -/
  | rxAccept
  /-- RX.SLIP (spec/42_framing.md R174). -/
  | rxSlip
  /-- RX.SCAN_END (spec/42_framing.md R175). -/
  | rxScanEnd
  /-- RX.ENQ (spec/43_session.md R195). -/
  | rxEnq
  /-- TX.TOP (spec/43_session.md R201). -/
  | txTop
  /-- TX.DEQ (spec/43_session.md R202). -/
  | txDeq
  /-- TX.GATE_PASS (spec/43_session.md R203). -/
  | txGatePass
  /-- TX.GATE_DENY (spec/43_session.md R204). -/
  | txGateDeny
  /-- TX.GAPCHK (spec/43_session.md R205). -/
  | txGapchk
  /-- TX.STAMP (spec/43_session.md R206). -/
  | txStamp
  /-- TX.WRITE (spec/43_session.md R207). -/
  | txWrite
  /-- QUERY(r) (spec/45_commands.md R243). -/
  | query (r : Byte)
  /-- SET_SPEED(n) (spec/45_commands.md R245). -/
  | setSpeed (n : Int)
  /-- SET_DEFAULT_FAN_SPEED(n) (spec/45_commands.md R246). -/
  | setDefaultFanSpeed (n : Int)
  /-- SET_MAX_FAN_SPEED(n) (spec/45_commands.md R247). -/
  | setMaxFanSpeed (n : Int)
  /-- CMD_PUSH(d, r, v) (spec/45_commands.md R244). -/
  | cmdPush (d r v : Byte)
  /-- EV_POP (spec/45_commands.md R261). -/
  | evPop
  /-- STATUS (spec/45_commands.md R263). -/
  | status
  /-- RESERVED_CMD: a host command word whose op is 0x00 or 0x08..0xFF (spec/30_encoding.md R102). -/
  | reservedCmd (op a b c : Byte)
  /-- SEND_INIT (spec/45_commands.md R250). -/
  | sendInit
  /-- OPEN(transport, client_addr, write_en, debug_sink) (spec/70_reset_and_hazards.md R310). -/
  | openSession (cfg : OpenConfig)
  deriving DecidableEq, Repr, Inhabited

/-- A word of bits that stands for an operation. -/
inductive CodeWord where
  /-- The 48 bits of a wire frame, bit 47 the most significant bit of byte 0 (spec/30_encoding.md R91). -/
  | wire (w : BitVec 48)
  /-- A 32-bit host command word (spec/30_encoding.md R100). -/
  | host (w : BitVec 32)
  /-- A step of an agent: the three-bit phase code of spec/30_encoding.md R102 in bits 2:0, and in bits 7:3 the model's
  own number among the rows of the table that share that code (DESIGN CHOICE, notes/assumptions/3.md). -/
  | phase (w : BitVec 8)
  deriving DecidableEq, Repr, Inhabited

/-- What the transport has ready for a read: a chunk of bytes, or a failure (spec/10_state.md R45). -/
inductive Offer where
  | ok (bytes : List Byte)
  | fail
  deriving DecidableEq, Repr, Inhabited

/-- An act of the LINE agent, outside CORE (spec/10_state.md R45, R49). -/
inductive LineEvent where
  /-- The transport has a further chunk, or a failure, behind what it already holds. -/
  | offer (o : Offer)
  /-- The transport is closed: the next or pending read fails and unread bytes are lost (spec/10_state.md R45,
  spec/43_session.md R193). -/
  | close
  /-- The transport loses `n` bytes, from offset `i` on, of the k-th item it holds (spec/70_reset_and_hazards.md R322). -/
  | lose (k i n : Nat)
  /-- From now on opening transport `id` fails with the transport's own error `err` (spec/60_exceptions.md R277). -/
  | openFails (id err : Nat)
  /-- From now on opening transport `id` succeeds. -/
  | openWorks (id : Nat)
  deriving DecidableEq, Repr, Inhabited

/-- The two internal agents of CORE (spec/00_scope.md R16). -/
inductive Agent where
  | rx
  | tx
  deriving DecidableEq, Repr, Inhabited

/-- One turn of the schedule: who acts next, and with what (spec/00_scope.md R16; DESIGN CHOICE,
notes/assumptions/1.md). -/
inductive Turn where
  /-- An operation given as a word: a host command word, a frame on the line, or a step's code. -/
  | word (w : CodeWord)
  /-- An operation selected by name (the classes FUNC and HOSTCALL have no word). -/
  | call (i : Instr)
  /-- Agent `a` takes the step its phase register and the guards select. -/
  | agent (a : Agent)
  /-- The k-th waiting caller of the current session tries its next push again (spec/45_commands.md R240, R264). -/
  | caller (k : Nat)
  /-- LINE acts. -/
  | line (e : LineEvent)
  /-- CLOCK: NOW grows by `d` microseconds (spec/10_state.md R47). -/
  | clock (d : Nat)
  /-- The following turns are those of the k-th other session (spec/70_reset_and_hazards.md R311). -/
  | session (k : Nat)
  deriving DecidableEq, Repr, Inhabited

/-- The values of RX_PHASE (spec/10_state.md R24). -/
inductive RxPhase where
  | rxTop
  | rxRead
  | rxScan
  | rxEnq
  | rxHalt
  deriving DecidableEq, Repr, Inhabited

/-- The values of TX_PHASE (spec/10_state.md R24). -/
inductive TxPhase where
  | txTop
  | txDeq
  | txGate
  | txGap
  | txWait
  | txWrite
  | txHalt
  deriving DecidableEq, Repr, Inhabited

/-- The five errors of CORE, with what each records (spec/60_exceptions.md R270). -/
inductive CoreError where
  | invalidAddress (a : Byte)
  | checksumMismatch (w : Frame)
  | transportReadFailure
  | invalidSpeedLevel (n : Int)
  | writeDenied (f : Frame)
  deriving DecidableEq, Repr, Inhabited

/-- A DIAG record: (4, level) or (5, frame) (spec/60_exceptions.md R276). -/
inductive DiagRecord where
  | invalidSpeedLevel (n : Int)
  | writeDenied (f : Frame)
  deriving DecidableEq, Repr, Inhabited

/-- What an operation hands back to its caller (the results column of spec/opcode_table.json's FUNC and HOST rows). -/
inductive Result where
  | nothing
  | byte (b : Byte)
  | frame (f : Frame)
  | int (i : Int)
  | tval (t : TVal)
  | kind (k : Kind)
  | bool (b : Bool)
  | event (e : Event)
  /-- The running flag, as STATUS returns it. -/
  | running (b : Bool)
  /-- A named error of CORE. -/
  | error (e : CoreError)
  /-- OPEN succeeded and returned the session. -/
  | session
  /-- OPEN failed with the transport's own error. -/
  | transportError (err : Nat)
  deriving DecidableEq, Repr, Inhabited

end Sys2Proof
end

