-- ==== Sys2Proof/Config.lean ====
section
/-! DEFINITION. What an implementation fixes: the constants of spec/00_scope.md R10, the parameters of R11 and R12 as one
record that every operation takes as an argument, the test instantiation T0, and the one value that no rule fixes at
all, the schedule. -/

namespace Sys2Proof

/-! ### Constants (spec/00_scope.md R10) -/

/-- SYSTEM_ID: the system byte of every frame CORE builds (R10). -/
def Config.systemId : Byte := 0x01

/-- QUERY_MARK: the register byte of a query frame (R10). -/
def Config.queryMark : Byte := 0x00

/-- PANEL_MIN: the lowest remote-panel address (R10). -/
def Config.panelMin : Byte := 0x20

/-- PANEL_MAX: the highest remote-panel address (R10). -/
def Config.panelMax : Byte := 0x2F

/-- CLIENT_ADDR_DEFAULT (R10). -/
def Config.clientAddrDefault : Byte := 0x27

/-- WRITE_EN_DEFAULT (R10). -/
def Config.writeEnDefault : Bool := false

/-- EVQ_CAP: the capacity of the event queue (R10). -/
def Config.evqCap : Nat := 100

/-- GAP: 50 ms in microseconds (R10; spec/10_state.md R47). -/
def Config.gap : Nat := 50000

/-! ### Parameters (spec/00_scope.md R11, R12; spec/92_eei_decisions.md D18) -/

/-- The open parameters of CORE. The spec gives none of them a value, so they are an argument of the machine: a field
of the state that no step writes, over whose every value a statement about all states quantifies. -/
structure Params where
  addrController : Byte
  addrPanelGroup : Byte
  regFanSpeedCurrent : Byte
  regFanSpeedDefault : Byte
  regFanSpeedMax : Byte
  regProgramFlags : Byte
  regRhMax : Byte
  regRh1 : Byte
  regRh2 : Byte
  regBasicHumidity : Byte
  regTempOutdoor : Byte
  regTempExhaustIn : Byte
  regTempExhaustOut : Byte
  regTempSupply : Byte
  regPostHeatingTarget : Byte
  regPostHeatingSetpoint : Byte
  regPreheating : Byte
  regBypass : Byte
  regPostHeatingOnTime : Byte
  regPostHeatingOffTime : Byte
  /-- CATALOG, in declaration order; N_CATALOG is its length. -/
  catalog : List Byte
  /-- TEMP_TABLE, 256 signed integers. -/
  tempTable : Vector Int 256
  /-- CMDQ_CAP. -/
  cmdqCap : Nat
  /-- T_LAST_RESET (spec/92_eei_decisions.md D7). -/
  tLastReset : Nat
  /-- RX_CHUNK_MAX; `none` is unbounded, the default (spec/92_eei_decisions.md D19). -/
  rxChunkMax : Option Nat
  deriving DecidableEq, Repr

/-- The eighteen register ids that the source names by role (spec/00_scope.md R11). -/
def Params.namedRegs (p : Params) : List Byte :=
  [p.regFanSpeedCurrent, p.regFanSpeedDefault, p.regFanSpeedMax, p.regProgramFlags, p.regRhMax, p.regRh1, p.regRh2,
    p.regBasicHumidity, p.regTempOutdoor, p.regTempExhaustIn, p.regTempExhaustOut, p.regTempSupply,
    p.regPostHeatingTarget, p.regPostHeatingSetpoint, p.regPreheating, p.regBypass, p.regPostHeatingOnTime,
    p.regPostHeatingOffTime]

/-- The constraints on the named register ids and on CATALOG: distinct, nonzero, every named id in CATALOG
(spec/00_scope.md R11; spec/45_commands.md R251; spec/92_eei_decisions.md D18, D27). -/
abbrev Params.regsLegal (p : Params) : Prop :=
  p.namedRegs.Nodup ∧ 0 ∉ p.namedRegs ∧ p.catalog.Nodup ∧ 0 ∉ p.catalog ∧ ∀ r ∈ p.namedRegs, r ∈ p.catalog

/-- The constraints on TEMP_TABLE: its two ends, and that it never decreases (spec/41_translator.md R145). -/
abbrev Params.tempLegal (p : Params) : Prop :=
  p.tempTable[0] = -74 ∧ p.tempTable[255] = 100 ∧ p.tempTable.toList.IsChain (· ≤ ·)

/-- The constraints on CMDQ_CAP (spec/00_scope.md R11). -/
abbrev Params.capLegal (p : Params) : Prop :=
  100 ≤ p.cmdqCap ∧ p.catalog.length ≤ p.cmdqCap

/-- A legal set of parameters: every constraint of spec/00_scope.md R11 holds. -/
abbrev Params.Legal (p : Params) : Prop :=
  p.regsLegal ∧ p.tempLegal ∧ p.capLegal

/-! ### The test instantiation T0 (spec/95_test_vectors.md section 0)

T0 is one legal argument, for tests and for the one reset state that the fixed interface asks for. It is no fact about
the device, and no meaning reads it (PRESUMED, notes/assumptions/2.md). -/

/-- Entries 0x00..0x1F of T0's temperature table. -/
def tempT0_00 : List Int :=
  [ -74, -70, -66, -62, -59, -56, -54, -52, -50, -48, -47, -46, -44, -43, -42, -41,
    -40, -39, -38, -37, -36, -35, -34, -33, -33, -32, -31, -30, -30, -29, -28, -28 ]

/-- Entries 0x20..0x3F of T0's temperature table. -/
def tempT0_20 : List Int :=
  [ -27, -27, -26, -25, -25, -24, -24, -23, -23, -22, -22, -21, -21, -20, -20, -19,
    -19, -19, -18, -18, -17, -17, -16, -16, -16, -15, -15, -14, -14, -14, -13, -13 ]

/-- Entries 0x40..0x5F of T0's temperature table. -/
def tempT0_40 : List Int :=
  [ -12, -12, -12, -11, -11, -11, -10, -10, -9, -9, -9, -8, -8, -8, -7, -7,
    -7, -6, -6, -6, -5, -5, -5, -4, -4, -4, -3, -3, -3, -2, -2, -2 ]

/-- Entries 0x60..0x7F of T0's temperature table. -/
def tempT0_60 : List Int :=
  [ -1, -1, -1, -1, 0, 0, 0, 1, 1, 1, 2, 2, 2, 3, 3, 3,
    4, 4, 4, 5, 5, 5, 5, 6, 6, 6, 7, 7, 7, 8, 8, 8 ]

/-- Entries 0x80..0x9F of T0's temperature table. -/
def tempT0_80 : List Int :=
  [ 9, 9, 9, 10, 10, 10, 11, 11, 11, 12, 12, 12, 13, 13, 13, 14,
    14, 14, 15, 15, 15, 16, 16, 16, 17, 17, 18, 18, 18, 19, 19, 19 ]

/-- Entries 0xA0..0xBF of T0's temperature table. -/
def tempT0_A0 : List Int :=
  [ 20, 20, 21, 21, 21, 22, 22, 22, 23, 23, 24, 24, 24, 25, 25, 26,
    26, 27, 27, 27, 28, 28, 29, 29, 30, 30, 31, 31, 32, 32, 33, 33 ]

/-- Entries 0xC0..0xDF of T0's temperature table. -/
def tempT0_C0 : List Int :=
  [ 34, 34, 35, 35, 36, 36, 37, 37, 38, 38, 39, 40, 40, 41, 41, 42,
    43, 43, 44, 45, 45, 46, 47, 48, 48, 49, 50, 51, 52, 53, 53, 54 ]

/-- Entries 0xE0..0xFF of T0's temperature table. -/
def tempT0_E0 : List Int :=
  [ 55, 56, 57, 59, 60, 61, 62, 63, 65, 66, 68, 69, 71, 73, 75, 77,
    79, 81, 82, 86, 90, 93, 97, 100, 100, 100, 100, 100, 100, 100, 100, 100 ]

/-- Each eighth of T0's temperature table has 32 entries. -/
theorem tempT0_length :
    tempT0_00.length = 32 ∧
    tempT0_20.length = 32 ∧
    tempT0_40.length = 32 ∧
    tempT0_60.length = 32 ∧
    tempT0_80.length = 32 ∧
    tempT0_A0.length = 32 ∧
    tempT0_C0.length = 32 ∧
    tempT0_E0.length = 32 :=
  ⟨rfl, rfl, rfl, rfl, rfl, rfl, rfl, rfl⟩

/-- T0's temperature table (spec/93_implementation_defined.md G1). -/
def tempT0 : Vector Int 256 :=
  ⟨(tempT0_00 ++ tempT0_20 ++ tempT0_40 ++ tempT0_60 ++ tempT0_80 ++ tempT0_A0 ++ tempT0_C0 ++ tempT0_E0).toArray,
    by simp only [List.size_toArray, List.length_append, tempT0_length]⟩

/-- The test instantiation T0 (spec/95_test_vectors.md section 0). T_LAST_RESET, which T0 leaves to each program, is 0,
and RX_CHUNK_MAX is its default, unbounded. -/
def Params.t0 : Params where
  addrController := 0x11
  addrPanelGroup := 0x20
  regFanSpeedCurrent := 0x29
  regFanSpeedDefault := 0xA9
  regFanSpeedMax := 0xA5
  regProgramFlags := 0xAA
  regRhMax := 0x2A
  regRh1 := 0x2F
  regRh2 := 0x30
  regBasicHumidity := 0xAE
  regTempOutdoor := 0x32
  regTempExhaustIn := 0x34
  regTempExhaustOut := 0x33
  regTempSupply := 0x35
  regPostHeatingTarget := 0x57
  regPostHeatingSetpoint := 0xA4
  regPreheating := 0xA7
  regBypass := 0xAF
  regPostHeatingOnTime := 0x55
  regPostHeatingOffTime := 0x56
  catalog := [0x29, 0x2A, 0x2F, 0x30, 0x32, 0x33, 0x34, 0x35, 0x55, 0x56, 0x57, 0xA4, 0xA5, 0xA7, 0xA9, 0xAA, 0xAE, 0xAF]
  tempTable := tempT0
  cmdqCap := 100
  tLastReset := 0
  rxChunkMax := none

/-! ### The schedule -/

/-- What happens when no turn is placed in the agenda: the n-th such turn is whatever the environment chooses. No rule
fixes it ("any enabled step of any agent may fire next", spec/00_scope.md R16), so it has no body and nothing can be
proved of its value (DESIGN CHOICE, notes/assumptions/1.md). -/
opaque Config.environment : Nat → Turn

end Sys2Proof
end

