-- ==== Sys2Proof/Machine/Operands.lean ====
section
/-! DEFINITION. The pure part of CORE: every function of bytes, levels and parameters that the operations share
(codec, translator, policy, builders, operand forms). No definition here reads or writes the state. -/

namespace Sys2Proof.Machine

/-! ### Packet codec (spec/40_codec.md) -/

/-- CHECKSUM: the integer sum of the five bytes, reduced once mod 256 (R120). -/
def checksum (y s d r v : Byte) : Byte :=
  BitVec.ofNat 8 (y.toNat + s.toNat + d.toNat + r.toNat + v.toNat)

/-- VALID: the sixth byte is the checksum of the first five (R122). -/
def valid (f : Frame) : Bool :=
  f.checksum == checksum f.system f.source f.destination f.register f.value

/-- ENCODE: the five bytes and their checksum (R121). -/
def encodeFrame (y s d r v : Byte) : Frame :=
  { system := y, source := s, destination := d, register := r, value := v, checksum := checksum y s d r v }

/-- DECODE: the frame of a valid window, ChecksumMismatch for any other (R122). -/
def decodeFrame (b : Frame) : Except CoreError Frame :=
  if valid b then .ok b else .error (.checksumMismatch b)

/-- The six bytes of a group in order of transmission (spec/20_memory.md R60). -/
def frameBytes (f : Frame) : List Byte :=
  [f.system, f.source, f.destination, f.register, f.value, f.checksum]

/-- The window W: the six bytes at the head of the buffer, defined only when six are there (spec/10_state.md R21). -/
def window : List Byte → Option Frame
  | y :: s :: d :: r :: v :: c :: _ =>
    some { system := y, source := s, destination := d, register := r, value := v, checksum := c }
  | _ => none

/-! ### The 48-bit frame and the 32-bit host word (spec/30_encoding.md R91, R100) -/

/-- A frame as a 48-bit string, bit 47 the most significant bit of byte 0 (R91). -/
def frameWord (f : Frame) : BitVec 48 :=
  f.system ++ f.source ++ f.destination ++ f.register ++ f.value ++ f.checksum

/-- The six fields of a 48-bit string (R91). -/
def wordFrame (w : BitVec 48) : Frame :=
  { system := w.extractLsb' 40 8, source := w.extractLsb' 32 8, destination := w.extractLsb' 24 8,
    register := w.extractLsb' 16 8, value := w.extractLsb' 8 8, checksum := w.extractLsb' 0 8 }

/-- A host command word from its four bytes, `op` in bits 31:24 (R100). -/
def hostWord (op a b c : Byte) : BitVec 32 :=
  op ++ a ++ b ++ c

/-- `sext_8`: a byte read as two's complement, the level operand of a speed command's word (spec/00_scope.md R14). -/
def sext8 (a : Byte) : Int :=
  a.toInt

/-! ### Register value translator (spec/41_translator.md) -/

/-- SPEED_ROM: level n is the byte with the n low bits set, 2^n - 1 (spec/30_encoding.md R95). -/
def speedRom (n : Nat) : Byte :=
  BitVec.ofNat 8 (2 ^ n - 1)

/-- SPEED_TO_VALUE: the pattern of a level in 1..8, InvalidSpeedLevel for any other (R142). -/
def speedToValue (n : Int) : Except CoreError Byte :=
  if 1 ≤ n ∧ n ≤ 8 then .ok (speedRom n.toNat) else .error (.invalidSpeedLevel n)

/-- VALUE_TO_SPEED: the level of one of the eight patterns, -1 for any other byte (R143). -/
def valueToSpeed (v : Byte) : Int :=
  if v = 0x01 then 1
  else if v = 0x03 then 2
  else if v = 0x07 then 3
  else if v = 0x0F then 4
  else if v = 0x1F then 5
  else if v = 0x3F then 6
  else if v = 0x7F then 7
  else if v = 0xFF then 8
  else -1

/-- VALUE_TO_RH: (v + 51) / 2.04 rounded to hundredths, by the floor expression of R144. -/
def valueToRh (v : Byte) : TVal :=
  .fix (((v.toNat + 51) * 5000 + 51) / 102 : Nat) .hundredths

/-- VALUE_TO_TEMP: the entry of TEMP_ROM (R145). -/
def valueToTemp (p : Params) (v : Byte) : Int :=
  p.tempTable[v.toNat]'v.isLt

/-- VALUE_TO_DUTY: v / 2.5 = 4v / 10, exactly (R146). -/
def valueToDuty (v : Byte) : TVal :=
  .fix (4 * v.toNat : Nat) .tenths

/-- VALUE_RAW: the byte as an unsigned integer (R147). -/
def valueRaw (v : Byte) : Int :=
  v.toNat

/-- KIND_OF, and KIND_ROM read at `r` (R141; spec/10_state.md R42). -/
def kindOf (p : Params) (r : Byte) : Kind :=
  if r ∈ [p.regFanSpeedCurrent, p.regFanSpeedDefault, p.regFanSpeedMax] then .fanSpeed
  else if r ∈ [p.regRhMax, p.regRh1, p.regRh2, p.regBasicHumidity] then .rh
  else if r ∈ [p.regTempOutdoor, p.regTempExhaustIn, p.regTempExhaustOut, p.regTempSupply, p.regPostHeatingTarget,
      p.regPostHeatingSetpoint, p.regPreheating, p.regBypass] then .temp
  else if r ∈ [p.regPostHeatingOnTime, p.regPostHeatingOffTime] then .duty
  else .byDefault

/-- TRANSLATE: the conversion that the register's Kind chooses (R148). -/
def translate (p : Params) (r v : Byte) : TVal :=
  match kindOf p r with
  | .fanSpeed => .int (valueToSpeed v)
  | .rh => valueToRh v
  | .temp => .int (valueToTemp p v)
  | .duty => valueToDuty v
  | .byDefault => .int (valueRaw v)

/-- 10^e for the exponent e of `FIX(m, e)` (spec/10_state.md R38). -/
def scaleFactor : Scale → Nat
  | .tenths => 10
  | .hundredths => 100

/-- The rational number a translated value denotes (spec/10_state.md R38). -/
def tvalRat : TVal → Rat
  | .int i => i
  | .fix m e => (m : Rat) / (scaleFactor e : Rat)

/-- MK_EVENT: the event of a window at time `t`; the system and checksum bytes are dropped (spec/43_session.md R194;
notes/assumptions/24.md). -/
def mkEvent (p : Params) (t : Nat) (w : Frame) : Event :=
  { ts := t, source := w.source, destination := w.destination, register := w.register, raw := w.value,
    tval := translate p w.register w.value }

/-! ### Write-safety policy (spec/44_write_policy.md) -/

/-- WRITE_ALLOW (R231). -/
def writeAllow (p : Params) : List Byte :=
  [p.regFanSpeedCurrent, p.regFanSpeedDefault, p.regFanSpeedMax, p.regProgramFlags]

/-- IS_WRITE_ALLOWED: a query always; any other register only with writing enabled and in WRITE_ALLOW (R230). -/
def isWriteAllowed (p : Params) (writeEn : Bool) (r : Byte) : Bool :=
  if r = Config.queryMark then true else writeEn && decide (r ∈ writeAllow p)

/-! ### Builders and address filter (spec/45_commands.md) -/

/-- BUILD_WRITE: system 1 and the client's own address, then the operands (R242; spec/30_encoding.md R93). -/
def buildWrite (clientAddr d r v : Byte) : Frame :=
  encodeFrame Config.systemId clientAddr d r v

/-- BUILD_QUERY: to the primary controller, register 0, the wanted id in the value byte (R241). -/
def buildQuery (p : Params) (clientAddr r : Byte) : Frame :=
  buildWrite clientAddr p.addrController Config.queryMark r

/-- The frames of SEND_INIT: one query per register of CATALOG, in its order (R250). -/
def initQueries (p : Params) (clientAddr : Byte) : List Frame :=
  p.catalog.map (buildQuery p clientAddr)

/-- The two writes of a speed command, the controller's first (R245; spec/30_encoding.md R94). -/
def speedFrames (p : Params) (clientAddr reg v : Byte) : List Frame :=
  [buildWrite clientAddr p.addrController reg v, buildWrite clientAddr p.addrPanelGroup reg v]

/-- FOR_ME: the destination is the panel group or the client's own address (R262). -/
def forMe (p : Params) (clientAddr : Byte) (ev : Event) : Bool :=
  ev.destination == p.addrPanelGroup || ev.destination == clientAddr

/-! ### The framing engine as one function (spec/42_framing.md R172) -/

/-- SCAN with `n` iterations to spend: the frames of the buffer in order, and the bytes left. -/
def scanFuel : Nat → List Byte → List Frame × List Byte
  | 0, buf => ([], buf)
  | n + 1, buf =>
    match window buf with
    | none => ([], buf)
    | some w =>
      if valid w then
        let rest := scanFuel n (buf.drop 6)
        (w :: rest.1, rest.2)
      else scanFuel n (buf.drop 1)

/-- SCAN(buf): every iteration shortens the buffer, so its length is enough fuel (R172, R176). -/
def scan (buf : List Byte) : List Frame × List Byte :=
  scanFuel buf.length buf

/-! ### Address range and configuration defaults (spec/70_reset_and_hazards.md R310) -/

/-- The client address lies in 0x20..0x2F (spec/10_state.md R30). -/
def addrInRange (a : Byte) : Bool :=
  decide (Config.panelMin.toNat ≤ a.toNat) && decide (a.toNat ≤ Config.panelMax.toNat)

/-- The configured client address, or its default. -/
def cfgClientAddr (cfg : OpenConfig) : Byte :=
  cfg.clientAddr.getD Config.clientAddrDefault

/-- The configured write-enable flag, or its default. -/
def cfgWriteEn (cfg : OpenConfig) : Bool :=
  cfg.writeEn.getD Config.writeEnDefault

/-- The configured debug sink, or its default. -/
def cfgDebugSink (cfg : OpenConfig) : Sink :=
  cfg.debugSink.getD .discard

/-! ### Numeric codes (spec/60_exceptions.md R270; spec/30_encoding.md R102) -/

/-- The numeric code of an error (spec/60_exceptions.md R270). -/
def errorCode : CoreError → Nat
  | .invalidAddress _ => 1
  | .checksumMismatch _ => 2
  | .transportReadFailure => 3
  | .invalidSpeedLevel _ => 4
  | .writeDenied _ => 5

/-- The code of the result of `open`: 0 is "no error", the result of a successful one; a named error has its own code; the
transport's own error is passed through and has none (spec/60_exceptions.md R270, R277). No other result is one of
`open`. -/
def openCode : Result → Option Nat
  | .session => some 0
  | .error e => some (errorCode e)
  | .transportError _ => none
  | .nothing | .byte _ | .frame _ | .int _ | .tval _ | .kind _ | .bool _ | .event _ | .running _ => none

/-- The code of a DIAG record (spec/60_exceptions.md R276). -/
def diagCode : DiagRecord → Nat
  | .invalidSpeedLevel _ => 4
  | .writeDenied _ => 5

/-- The code of RX_PHASE (spec/30_encoding.md R102). -/
def rxPhaseCode : RxPhase → BitVec 3
  | .rxTop => 0b000
  | .rxRead => 0b001
  | .rxScan => 0b010
  | .rxEnq => 0b011
  | .rxHalt => 0b111

/-- The code of TX_PHASE (spec/30_encoding.md R102). -/
def txPhaseCode : TxPhase → BitVec 3
  | .txTop => 0b000
  | .txDeq => 0b001
  | .txGate => 0b010
  | .txGap => 0b011
  | .txWait => 0b100
  | .txWrite => 0b101
  | .txHalt => 0b111

end Sys2Proof.Machine
end

