-- ==== Sys2Proof/Machine/State.lean ====
section
/-! DEFINITION. The state of the machine as plain data: every cell of spec/10_state.md R20, the parameters, the clock,
and what the model adds so that one deterministic step can show every interleaving (the transport's unread offers, the
callers that wait, the agenda of turns). With it the two ways a step can stop, and the state after reset. -/

namespace Sys2Proof.Machine

/-- One session: the cells that one `open` creates (spec/10_state.md R20, R50), then what its transport and its callers
hold outside CORE. -/
structure Session where
  /-- CFG.CLIENT_ADDR (R30). -/
  clientAddr : Byte
  /-- CFG.WRITE_EN (R31). -/
  writeEn : Bool
  /-- CFG.DEBUG_SINK (R32). -/
  debugSink : Sink
  /-- The transport handle (R33). -/
  transport : Nat
  /-- RUNNING (R28). -/
  running : Bool
  /-- LAST_ACTIVITY (R34). -/
  lastActivity : Nat
  /-- RXBUF, head first (R41). -/
  rxbuf : List Byte
  /-- EVQ, oldest first (R35). -/
  evq : List Event
  /-- CMDQ, oldest first (R36). -/
  cmdq : List Frame
  /-- RX_PHASE (R24, R25). -/
  rxPhase : RxPhase
  /-- EVR (R21 c). -/
  evr : Event
  /-- TX_PHASE (R24, R26). -/
  txPhase : TxPhase
  /-- TXF (R21 b). -/
  txf : Frame
  /-- TX_DEADLINE (R27). -/
  txDeadline : Nat
  /-- WIRE_OUT: time and six bytes of every write, oldest first (R48). -/
  wireOut : List (Nat × Frame)
  /-- DIAG, oldest first (R48; spec/60_exceptions.md R276). -/
  diag : List DiagRecord
  /-- What the transport has ready and RX has not read, in order; outside CORE (R45, R49 a;
  DESIGN CHOICE, notes/assumptions/17.md). -/
  line : List Offer
  /-- The callers that wait for room in CMDQ, each with the frames it still has to push
  (spec/45_commands.md R240, R245, R264; DESIGN CHOICE, notes/assumptions/6.md). -/
  callers : List (List Frame)
  /-- Ghost: the times of this session's TX.STAMP steps, oldest first, the t_k of spec/43_session.md R208. No meaning
  reads it (spec/60_exceptions.md R294; DESIGN CHOICE, notes/assumptions/11.md). -/
  stamps : List Nat
  deriving DecidableEq, Repr

/-- The whole state. `params` and `now` are inputs that no step of CORE writes; `core` is the session that the turns act
on and `others` are the further sessions, which share nothing with it (spec/70_reset_and_hazards.md R311). -/
structure State where
  /-- The open parameters (spec/00_scope.md R11, R12). -/
  params : Params
  /-- NOW (spec/10_state.md R47). -/
  now : Nat
  /-- The current session. -/
  core : Session
  /-- The other sessions, each made by its own `open` (DESIGN CHOICE, notes/assumptions/12.md). -/
  others : List Session
  /-- The transports whose open step would fail, with the error it would raise; outside CORE
  (spec/60_exceptions.md R277). -/
  openErrors : List (Nat × Nat)
  /-- What the last operation that returns something returned (the model's own output port; DESIGN CHOICE,
  notes/assumptions/13.md). -/
  ret : Result
  /-- The turns already chosen, next first (the model's own; DESIGN CHOICE, notes/assumptions/1.md). -/
  agenda : List Turn
  /-- How many turns the free schedule has supplied (the model's own). -/
  turn : Nat
  deriving DecidableEq, Repr

/-- The ways the machine can be stuck. -/
inductive Fault where
  /-- OPEN never returns: CMDQ_CAP < N_CATALOG, so a push of the init burst waits for ever
  (spec/70_reset_and_hazards.md R329; spec/93_implementation_defined.md U14). Raised by OPEN only; every legal parameter
  record excludes it. Safe: the model stops where the hardware hangs (notes/assumptions/16.md). -/
  | openBlocked
  deriving DecidableEq, Repr

/-- The events to which the spec gives no meaning. -/
inductive Refusal where
  /-- An operation without a meaning in `exec`; no arm raises it. Safe. -/
  | notModelled (mnemonic : String)
  /-- OPEN on a transport that a running session owns (spec/93_implementation_defined.md U20, treatment `refuse`).
  Raised by OPEN only. Safe: the model claims nothing about such a run (notes/assumptions/12.md). -/
  | sharedTransport
  deriving DecidableEq, Repr

/-- The machine right after reset, which is the return of a successful `open` (spec/10_state.md R50;
spec/70_reset_and_hazards.md R310, R312): default configuration, CMDQ holding the init queries. The parameters are T0,
NOW and T_LAST_RESET are 0, and EVR, TXF and TX_DEADLINE, to which the spec gives no reset value, are zero
(notes/assumptions/2.md, 4.md, 5.md, 20.md). -/
def State.reset : State where
  params := Params.t0
  now := 0
  core :=
    { clientAddr := Config.clientAddrDefault
      writeEn := Config.writeEnDefault
      debugSink := .discard
      transport := 0
      running := true
      lastActivity := Params.t0.tLastReset
      rxbuf := []
      evq := []
      cmdq := initQueries Params.t0 Config.clientAddrDefault
      rxPhase := .rxTop
      evr := { ts := 0, source := 0, destination := 0, register := 0, raw := 0, tval := .int 0 }
      txPhase := .txTop
      txf := { system := 0, source := 0, destination := 0, register := 0, value := 0, checksum := 0 }
      txDeadline := 0
      wireOut := []
      diag := []
      line := []
      callers := []
      stamps := [] }
  others := []
  openErrors := []
  ret := .session
  agenda := []
  turn := 0

end Sys2Proof.Machine
end

