-- ==== Sys2Proof/Machine/Flags.lean ====
section
/-! DEFINITION. The conditions computed from the state and not stored (spec/10_state.md R29), and the transport read on
which the two read steps depend. CORE has no arithmetic flags: no operation leaves a carry, zero or sign. -/

namespace Sys2Proof.Machine

/-- EVQ_FULL. -/
def Session.evqFull (c : Session) : Bool :=
  decide (Config.evqCap ≤ c.evq.length)

/-- EVQ_EMPTY. -/
def Session.evqEmpty (c : Session) : Bool :=
  c.evq.isEmpty

/-- CMDQ_FULL, for a capacity CMDQ_CAP. -/
def Session.cmdqFull (c : Session) (cap : Nat) : Bool :=
  decide (cap ≤ c.cmdq.length)

/-- CMDQ_EMPTY. -/
def Session.cmdqEmpty (c : Session) : Bool :=
  c.cmdq.isEmpty

/-- WIN_READY. -/
def Session.winReady (c : Session) : Bool :=
  decide (6 ≤ c.rxbuf.length)

/-- WIN_VALID: a window stands at the head and is valid. -/
def Session.winValid (c : Session) : Bool :=
  match window c.rxbuf with
  | some w => valid w
  | none => false

/-- GAP_OPEN: at least GAP has passed since LAST_ACTIVITY. -/
def Session.gapOpen (c : Session) (now : Nat) : Bool :=
  decide (Config.gap ≤ now - c.lastActivity)

/-- What a transport read returns now, and what the transport then still holds; `none` while the read blocks. A chunk
longer than RX_CHUNK_MAX is read in parts (spec/10_state.md R45; spec/43_session.md R192; DEDUCED,
notes/assumptions/10.md). -/
def nextRead (chunkMax : Option Nat) : List Offer → Option (Offer × List Offer)
  | [] => none
  | .fail :: rest => some (.fail, rest)
  | .ok bytes :: rest =>
    let n := min (chunkMax.getD bytes.length) bytes.length
    if n = bytes.length then some (.ok bytes, rest)
    else some (.ok (bytes.take n), .ok (bytes.drop n) :: rest)

/-- IS_WRITE_ALLOWED applied to the frame in hand, the guard of the two gate steps (spec/43_session.md R203, R204). -/
def State.gateOpen (s : State) : Bool :=
  isWriteAllowed s.params s.core.writeEn s.core.txf.register

/-- A session whose RUNNING has not fallen owns transport `id` (DESIGN CHOICE, notes/assumptions/12.md). -/
def State.transportTaken (s : State) (id : Nat) : Bool :=
  (s.core :: s.others).any fun c => c.running && c.transport == id

/-- The error that opening transport `id` would raise, if any (spec/60_exceptions.md R277). -/
def State.openError (s : State) (id : Nat) : Option Nat :=
  (s.openErrors.find? fun e => e.1 == id).map Prod.snd

end Sys2Proof.Machine
end

