-- ==== Sys2Proof/Machine/Ops.lean ====
section
/-! DEFINITION. The named operations over the state: the primitives of spec/00_scope.md R15, the calls of the host port
(spec/45_commands.md R240), and the one operation by which an error takes its disposition (spec/60_exceptions.md). There
is no operation beside it that returns from an error: "There is no return" (R283). -/

namespace Sys2Proof.Machine

/-! ### The primitives on one session (spec/00_scope.md R15) -/

/-- MemRead(RXBUF, addr, n): bytes of the receive buffer, unchanged. -/
def Session.memRead (c : Session) (addr n : Nat) : List Byte :=
  (c.rxbuf.drop addr).take n

/-- MemWrite(RXBUF, tail, n, v): bytes appended to the receive buffer. -/
def Session.bufAppend (c : Session) (bytes : List Byte) : Session :=
  { c with rxbuf := c.rxbuf ++ bytes }

/-- BufDrop(n): n bytes leave the head of the receive buffer. -/
def Session.bufDrop (c : Session) (n : Nat) : Session :=
  { c with rxbuf := c.rxbuf.drop n }

/-- QPush(EVQ, e). -/
def Session.evqPush (c : Session) (e : Event) : Session :=
  { c with evq := c.evq ++ [e] }

/-- QPush(CMDQ, f). -/
def Session.cmdqPush (c : Session) (f : Frame) : Session :=
  { c with cmdq := c.cmdq ++ [f] }

/-- LAST_ACTIVITY <- t. -/
def Session.touch (c : Session) (t : Nat) : Session :=
  { c with lastActivity := t }

/-- RX_PHASE <- p. -/
def Session.toRx (c : Session) (p : RxPhase) : Session :=
  { c with rxPhase := p }

/-- TX_PHASE <- p. -/
def Session.toTx (c : Session) (p : TxPhase) : Session :=
  { c with txPhase := p }

/-- EVR <- e. -/
def Session.setEvr (c : Session) (e : Event) : Session :=
  { c with evr := e }

/-- TXF <- f, the frame having left CMDQ, of which `rest` remains. -/
def Session.takeFrame (c : Session) (f : Frame) (rest : List Frame) : Session :=
  { c with txf := f, cmdq := rest }

/-- TX_DEADLINE <- t. -/
def Session.setDeadline (c : Session) (t : Nat) : Session :=
  { c with txDeadline := t }

/-- The ghost record of a TX.STAMP at time t. -/
def Session.recordStamp (c : Session) (t : Nat) : Session :=
  { c with stamps := c.stamps ++ [t] }

/-- LineWrite(TXF[0..5]): the transport takes the six bytes whole, and WIRE_OUT records them with the time
(spec/43_session.md R207; PRESUMED, notes/assumptions/14.md). -/
def Session.lineWrite (c : Session) (t : Nat) : Session :=
  { c with wireOut := c.wireOut ++ [(t, c.txf)] }

/-- What the transport holds becomes `l`. -/
def Session.setLine (c : Session) (l : List Offer) : Session :=
  { c with line := l }

/-! ### Taking an error (spec/60_exceptions.md R270 to R276, R282) -/

/-- `raise e`: the disposition of each error. Nothing is saved and no handler runs: ChecksumMismatch leaves no trace
(R272), InvalidAddress has no session to touch (R271), a read failure clears RUNNING and halts RX (R273), a bad level
leaves a DIAG record (R274), a denied write leaves one and sends TX back to the top of its loop (R275). -/
def Session.raise (c : Session) : CoreError → Session
  | .invalidAddress _ => c
  | .checksumMismatch _ => c
  | .transportReadFailure => { c with running := false, rxPhase := .rxHalt }
  | .invalidSpeedLevel n => { c with diag := c.diag ++ [.invalidSpeedLevel n] }
  | .writeDenied f => { c with diag := c.diag ++ [.writeDenied f], txPhase := .txTop }

/-- The DIAG records that reach the debug sink: none where the sink discards (spec/10_state.md R32;
spec/60_exceptions.md R276; DESIGN CHOICE, notes/assumptions/21.md). -/
def Session.delivered (c : Session) : List DiagRecord :=
  match c.debugSink with
  | .discard => []
  | .host _ => c.diag

/-! ### Calls of the host port (spec/45_commands.md R240, R245, R264) -/

/-- A caller with frames left to push waits; one with none left is done. -/
def Session.park (c : Session) : List Frame → Session
  | [] => c
  | f :: fs => { c with callers := c.callers ++ [f :: fs] }

/-- A call that pushes these frames, each push a step of its own: the first is made now if CMDQ has room, and the caller
waits with the rest. -/
def Session.call (c : Session) (cap : Nat) : List Frame → Session
  | [] => c
  | f :: fs => if c.cmdqFull cap then c.park (f :: fs) else (c.cmdqPush f).park fs

/-- The k-th waiting caller tries its next push: with room it is made, and a caller with no frame left is gone; without
room it goes on waiting. -/
def Session.resume (c : Session) (cap k : Nat) : Session :=
  match c.callers[k]? with
  | some (f :: fs) =>
    if c.cmdqFull cap then c
    else { c.cmdqPush f with callers := if fs.isEmpty then c.callers.eraseIdx k else c.callers.set k fs }
  | _ => c

/-- A run of pushes with no competitor, the init burst inside OPEN: frames enter CMDQ while there is room, and those that
find none are handed back (spec/45_commands.md R250, R264; DEDUCED, notes/assumptions/15.md). -/
def Session.pushAll (c : Session) (cap : Nat) : List Frame → Session × List Frame
  | [] => (c, [])
  | f :: fs => if c.cmdqFull cap then (c, f :: fs) else (c.cmdqPush f).pushAll cap fs

/-! ### Acts on the whole state -/

/-- A change of the current session. -/
def State.onCore (s : State) (f : Session → Session) : State :=
  { s with core := f s.core }

/-- An operation hands a value to its caller. -/
def State.give (s : State) (r : Result) : State :=
  { s with ret := r }

/-- A call of the host port that queues these frames (spec/45_commands.md R240). -/
def hostCall (frames : List Frame) (s : State) : State :=
  s.onCore fun c => c.call s.params.cmdqCap frames

/-- "guard: G; effect: E" (spec/00_scope.md R15): where G holds the session changes; where it does not, the agent waits
and nothing changes (DESIGN CHOICE, notes/assumptions/6.md). -/
def fire (s : State) (guard : Bool) (effect : Session → Session) : Host.Outcome State Fault Refusal :=
  if guard then .next (s.onCore effect) else .next s

end Sys2Proof.Machine
end

