-- ==== Sys2Proof/Machine/Codec.lean ====
section
/-! DEFINITION. The packet codec as operations (spec/40_codec.md). They are pure: only the value handed to the caller
changes. -/

namespace Sys2Proof.Machine

/-- CHECKSUM (R120). -/
def execChecksum (y so d r v : Byte) (s : State) : Host.Outcome State Fault Refusal :=
  .next (s.give (.byte (checksum y so d r v)))

/-- ENCODE (R121). -/
def execEncode (y so d r v : Byte) (s : State) : Host.Outcome State Fault Refusal :=
  .next (s.give (.frame (encodeFrame y so d r v)))

/-- DECODE: the frame, or ChecksumMismatch taken and handed back as "invalid" (R122; spec/60_exceptions.md R272). -/
def execDecode (b : Frame) (s : State) : Host.Outcome State Fault Refusal :=
  match decodeFrame b with
  | .ok f => .next (s.give (.frame f))
  | .error e => .next ((s.onCore fun c => c.raise e).give (.error e))

end Sys2Proof.Machine
end

