-- ==== Sys2Proof/Machine/Commands.lean ====
section
/-! DEFINITION. The commands of the host port (spec/45_commands.md). Those that queue frames return nothing: the value
last handed to a caller stays (R240). -/

namespace Sys2Proof.Machine

/-- The common body of the three speed commands, for the register each one names (R245 to R247): a bad level is
InvalidSpeedLevel and queues nothing, a good one queues two writes, the controller's first. -/
def speedCommand (reg : Byte) (n : Int) (s : State) : Host.Outcome State Fault Refusal :=
  match speedToValue n with
  | .ok v => .next (hostCall (speedFrames s.params s.core.clientAddr reg v) s)
  | .error e => .next (s.onCore fun c => c.raise e)

/-- QUERY (R243). -/
def execQuery (r : Byte) (s : State) : Host.Outcome State Fault Refusal :=
  .next (hostCall [buildQuery s.params s.core.clientAddr r] s)

/-- SET_SPEED (R245). -/
def execSetSpeed (n : Int) (s : State) : Host.Outcome State Fault Refusal :=
  speedCommand s.params.regFanSpeedCurrent n s

/-- SET_DEFAULT_FAN_SPEED (R246). -/
def execSetDefaultFanSpeed (n : Int) (s : State) : Host.Outcome State Fault Refusal :=
  speedCommand s.params.regFanSpeedDefault n s

/-- SET_MAX_FAN_SPEED (R247). -/
def execSetMaxFanSpeed (n : Int) (s : State) : Host.Outcome State Fault Refusal :=
  speedCommand s.params.regFanSpeedMax n s

/-- CMD_PUSH (R244). -/
def execCmdPush (d r v : Byte) (s : State) : Host.Outcome State Fault Refusal :=
  .next (hostCall [buildWrite s.core.clientAddr d r v] s)

/-- EV_POP: the oldest event; on an empty queue the consumer waits (R261). -/
def execEvPop (s : State) : Host.Outcome State Fault Refusal :=
  match s.core.evq with
  | e :: rest => .next ((s.onCore fun c => { c with evq := rest }).give (.event e))
  | [] => .next s

/-- STATUS: the running flag (R263). -/
def execStatus (s : State) : Host.Outcome State Fault Refusal :=
  .next (s.give (.running s.core.running))

/-- RESERVED_CMD: "it changes no state, raises no DIAG record and returns nothing" (spec/30_encoding.md R102;
notes/assumptions/9.md). -/
def execReservedCmd (_op _a _b _c : Byte) (s : State) : Host.Outcome State Fault Refusal :=
  .next s

end Sys2Proof.Machine
end

