-- ==== Sys2Proof/Machine/Framing.lean ====
section
/-! DEFINITION. The framing and resynchronisation engine: the three steps of the RX agent in phase RX_SCAN
(spec/42_framing.md). -/

namespace Sys2Proof.Machine

/-- RX.ACCEPT: the event of the valid window into EVR, its six bytes out of the buffer (R173). -/
def execRxAccept (s : State) : Host.Outcome State Fault Refusal :=
  match window s.core.rxbuf with
  | some w =>
    fire s (s.core.rxPhase == .rxScan && valid w) fun c =>
      ((c.setEvr (mkEvent s.params s.now w)).bufDrop 6).toRx .rxEnq
  | none => .next s

/-- RX.SLIP: ChecksumMismatch is taken, and exactly one byte leaves the head of the buffer (R174). -/
def execRxSlip (s : State) : Host.Outcome State Fault Refusal :=
  match window s.core.rxbuf with
  | some w =>
    fire s (s.core.rxPhase == .rxScan && !valid w) fun c =>
      ((c.raise (.checksumMismatch w)).bufDrop 1).toRx .rxScan
  | none => .next s

/-- RX.SCAN_END: fewer than six bytes are left, and they stay (R175). -/
def execRxScanEnd (s : State) : Host.Outcome State Fault Refusal :=
  fire s (s.core.rxPhase == .rxScan && !s.core.winReady) fun c => c.toRx .rxTop

end Sys2Proof.Machine
end

