-- ==== Sys2Proof/Machine/Inbound.lean ====
section
/-! DEFINITION. The steps of the RX agent outside the framing engine (spec/43_session.md section 1). -/

namespace Sys2Proof.Machine

/-- RX.TOP: the running flag is tested at the top of the loop (R191). -/
def execRxTop (s : State) : Host.Outcome State Fault Refusal :=
  fire s (s.core.rxPhase == .rxTop) fun c => c.toRx (if c.running then .rxRead else .rxHalt)

/-- RX.READ_OK: the chunk is appended and LAST_ACTIVITY stamped; a scan follows unless the chunk is empty (R192). -/
def execRxReadOk (s : State) : Host.Outcome State Fault Refusal :=
  match nextRead s.params.rxChunkMax s.core.line with
  | some (.ok bytes, rest) =>
    fire s (s.core.rxPhase == .rxRead) fun c =>
      (((c.setLine rest).touch s.now).bufAppend bytes).toRx (if bytes.isEmpty then .rxTop else .rxScan)
  | _ => .next s

/-- RX.READ_FAIL: TransportReadFailure is taken, and what the transport may have had is lost (R193;
spec/60_exceptions.md R273). -/
def execRxReadFail (s : State) : Host.Outcome State Fault Refusal :=
  match nextRead s.params.rxChunkMax s.core.line with
  | some (.fail, _) =>
    fire s (s.core.rxPhase == .rxRead) fun c => (c.setLine []).raise .transportReadFailure
  | _ => .next s

/-- RX.ENQ: EVR enters EVQ if there is room (R195). -/
def execRxEnq (s : State) : Host.Outcome State Fault Refusal :=
  fire s (s.core.rxPhase == .rxEnq && !s.core.evqFull) fun c => (c.evqPush c.evr).toRx .rxScan

end Sys2Proof.Machine
end

