-- ==== Sys2Proof/Machine/Outbound.lean ====
section
/-! DEFINITION. The steps of the TX agent (spec/43_session.md section 2). -/

namespace Sys2Proof.Machine

/-- TX.TOP: the only place where TX looks at the running flag (R201). -/
def execTxTop (s : State) : Host.Outcome State Fault Refusal :=
  fire s (s.core.txPhase == .txTop) fun c => c.toTx (if c.running then .txDeq else .txHalt)

/-- TX.DEQ: the oldest frame of CMDQ into TXF (R202). -/
def execTxDeq (s : State) : Host.Outcome State Fault Refusal :=
  match s.core.cmdq with
  | f :: rest => fire s (s.core.txPhase == .txDeq) fun c => (c.takeFrame f rest).toTx .txGate
  | [] => .next s

/-- TX.GATE_PASS (R203). -/
def execTxGatePass (s : State) : Host.Outcome State Fault Refusal :=
  fire s (s.core.txPhase == .txGate && s.gateOpen) fun c => c.toTx .txGap

/-- TX.GATE_DENY: WriteDenied is taken, which sends TX back to the top (R204; spec/60_exceptions.md R275). -/
def execTxGateDeny (s : State) : Host.Outcome State Fault Refusal :=
  fire s (s.core.txPhase == .txGate && !s.gateOpen) fun c => c.raise (.writeDenied c.txf)

/-- TX.GAPCHK: the deadline is NOW if the gap is open, else LAST_ACTIVITY + GAP (R205). -/
def execTxGapchk (s : State) : Host.Outcome State Fault Refusal :=
  fire s (s.core.txPhase == .txGap) fun c =>
    (c.setDeadline (if c.gapOpen s.now then s.now else c.lastActivity + Config.gap)).toTx .txWait

/-- TX.STAMP: not before the deadline (R206). -/
def execTxStamp (s : State) : Host.Outcome State Fault Refusal :=
  fire s (s.core.txPhase == .txWait && decide (s.core.txDeadline ≤ s.now)) fun c =>
    ((c.touch s.now).recordStamp s.now).toTx .txWrite

/-- TX.WRITE: the six bytes of TXF go to the transport (R207). -/
def execTxWrite (s : State) : Host.Outcome State Fault Refusal :=
  fire s (s.core.txPhase == .txWrite) fun c => (c.lineWrite s.now).toTx .txTop

end Sys2Proof.Machine
end

