-- ==== Sys2Proof/Machine/Policy.lean ====
section
/-! DEFINITION. The write-safety policy, the builders and the address filter as operations (spec/44_write_policy.md;
spec/45_commands.md R241, R242, R262). They are pure: only the value handed to the caller changes. -/

namespace Sys2Proof.Machine

/-- IS_WRITE_ALLOWED (spec/44_write_policy.md R230). -/
def execIsWriteAllowed (r : Byte) (s : State) : Host.Outcome State Fault Refusal :=
  .next (s.give (.bool (isWriteAllowed s.params s.core.writeEn r)))

/-- BUILD_QUERY (spec/45_commands.md R241). -/
def execBuildQuery (r : Byte) (s : State) : Host.Outcome State Fault Refusal :=
  .next (s.give (.frame (buildQuery s.params s.core.clientAddr r)))

/-- BUILD_WRITE (spec/45_commands.md R242). -/
def execBuildWrite (d r v : Byte) (s : State) : Host.Outcome State Fault Refusal :=
  .next (s.give (.frame (buildWrite s.core.clientAddr d r v)))

/-- FOR_ME (spec/45_commands.md R262). -/
def execForMe (ev : Event) (s : State) : Host.Outcome State Fault Refusal :=
  .next (s.give (.bool (forMe s.params s.core.clientAddr ev)))

end Sys2Proof.Machine
end

