-- ==== Sys2Proof/Machine/Reset.lean ====
section
/-! DEFINITION. The reset of the block: SEND_INIT and OPEN (spec/45_commands.md R250; spec/70_reset_and_hazards.md
R310). -/

namespace Sys2Proof.Machine

/-- SEND_INIT inside OPEN, where it "has no competitor because it runs before anything else" (spec/45_commands.md R264):
the new session after the pushes, and the frames that found no room (R250; notes/assumptions/15.md). -/
def Session.sendInit (c : Session) (p : Params) : Session × List Frame :=
  c.pushAll p.cmdqCap (initQueries p c.clientAddr)

/-- SEND_INIT called by name: a call that queues the N_CATALOG init queries in CATALOG order, each push a step of its own,
so that another caller's push or a TX.DEQ may fall between two of them (R250, R264). -/
def execSendInit (s : State) : Host.Outcome State Fault Refusal :=
  .next (hostCall (initQueries s.params s.core.clientAddr) s)

/-- Part 3 of OPEN: every cell of a new session. LAST_ACTIVITY is T_LAST_RESET, "any value ≤ NOW"; EVR, TXF and
TX_DEADLINE, which R310 does not write, are zero as at reset (notes/assumptions/4.md, 5.md). -/
def newSession (p : Params) (now : Nat) (clientAddr : Byte) (writeEn : Bool) (sink : Sink) (transport : Nat) :
    Session where
  clientAddr := clientAddr
  writeEn := writeEn
  debugSink := sink
  transport := transport
  running := true
  lastActivity := min p.tLastReset now
  rxbuf := []
  evq := []
  cmdq := []
  rxPhase := .rxTop
  evr := { ts := 0, source := 0, destination := 0, register := 0, raw := 0, tval := .int 0 }
  txPhase := .txTop
  txf := { system := 0, source := 0, destination := 0, register := 0, value := 0, checksum := 0 }
  txDeadline := 0
  wireOut := []
  diag := []
  line := []
  callers := []
  stamps := []

/-- The session that OPEN makes from a configuration, before SEND_INIT (R310 part 3). -/
def configured (s : State) (cfg : OpenConfig) : Session :=
  newSession s.params s.now (cfgClientAddr cfg) (cfgWriteEn cfg) (cfgDebugSink cfg) cfg.transport.id

/-- The error of OPEN's second part: none for a transport handed over open, else what the transport's own open step
raises (R310 part 2; spec/60_exceptions.md R277). -/
def transportError (s : State) (t : Transport) : Option Nat :=
  if t.isOpen then none else s.openError t.id

/-- OPEN: the address check, the transport, the cells, SEND_INIT, in this order (R310; spec/60_exceptions.md R271, R281).
A failed OPEN changes no cell. A successful one makes a new session the current one and keeps the old ones as they are
(R311). -/
def execOpenSession (cfg : OpenConfig) (s : State) : Host.Outcome State Fault Refusal :=
  if addrInRange (cfgClientAddr cfg) then
    match transportError s cfg.transport with
    | some e => .next (s.give (.transportError e))
    | none =>
      if s.transportTaken cfg.transport.id then .refused .sharedTransport
      else
        match (configured s cfg).sendInit s.params with
        | (c, []) => .next ({ s with core := c, others := s.core :: s.others }.give .session)
        | (_, _ :: _) => .fault .openBlocked
  else .next (s.give (.error (.invalidAddress (cfgClientAddr cfg))))

end Sys2Proof.Machine
end

