-- ==== Sys2Proof/Machine/Translator.lean ====
section
/-! DEFINITION. The register value translator as operations (spec/41_translator.md), and MK_EVENT (spec/43_session.md
R194). They are pure: only the value handed to the caller changes, but for the DIAG record of a bad level. -/

namespace Sys2Proof.Machine

/-- SPEED_TO_VALUE: the pattern, or InvalidSpeedLevel taken and handed back (R142; spec/60_exceptions.md R274;
notes/assumptions/8.md). -/
def execSpeedToValue (n : Int) (s : State) : Host.Outcome State Fault Refusal :=
  match speedToValue n with
  | .ok v => .next (s.give (.byte v))
  | .error e => .next ((s.onCore fun c => c.raise e).give (.error e))

/-- VALUE_TO_SPEED (R143). -/
def execValueToSpeed (v : Byte) (s : State) : Host.Outcome State Fault Refusal :=
  .next (s.give (.int (valueToSpeed v)))

/-- VALUE_TO_RH (R144). -/
def execValueToRh (v : Byte) (s : State) : Host.Outcome State Fault Refusal :=
  .next (s.give (.tval (valueToRh v)))

/-- VALUE_TO_TEMP (R145). -/
def execValueToTemp (v : Byte) (s : State) : Host.Outcome State Fault Refusal :=
  .next (s.give (.int (valueToTemp s.params v)))

/-- VALUE_TO_DUTY (R146). -/
def execValueToDuty (v : Byte) (s : State) : Host.Outcome State Fault Refusal :=
  .next (s.give (.tval (valueToDuty v)))

/-- VALUE_RAW (R147). -/
def execValueRaw (v : Byte) (s : State) : Host.Outcome State Fault Refusal :=
  .next (s.give (.int (valueRaw v)))

/-- KIND_OF (R141). -/
def execKindOf (r : Byte) (s : State) : Host.Outcome State Fault Refusal :=
  .next (s.give (.kind (kindOf s.params r)))

/-- TRANSLATE (R148). -/
def execTranslate (r v : Byte) (s : State) : Host.Outcome State Fault Refusal :=
  .next (s.give (.tval (translate s.params r v)))

/-- MK_EVENT (spec/43_session.md R194). -/
def execMkEvent (t : Nat) (w : Frame) (s : State) : Host.Outcome State Fault Refusal :=
  .next (s.give (.event (mkEvent s.params t w)))

end Sys2Proof.Machine
end

