-- ==== Sys2Proof/Machine/Wire.lean ====
section
/-! DEFINITION. The class WIRE: a frame as it appears on the line (spec/30_encoding.md R91, R92). The line delivers its six
bytes, in order of transmission, as one chunk behind what the transport already holds; RX reads it in RX_READ
(spec/10_state.md R45; DEDUCED, notes/assumptions/7.md). -/

namespace Sys2Proof.Machine

/-- Six bytes arrive at the transport of the current session. -/
def arrive (s : State) (f : Frame) : State :=
  s.onCore fun c => c.setLine (c.line ++ [.ok (frameBytes f)])

/-- FRAME.QUERY: register byte 0 (R92). -/
def execFrameQuery (y so d v c : Byte) (s : State) : Host.Outcome State Fault Refusal :=
  .next (arrive s ⟨y, so, d, Config.queryMark, v, c⟩)

/-- FRAME.DATA: any other register byte (R92). -/
def execFrameData (y so d r v c : Byte) (s : State) : Host.Outcome State Fault Refusal :=
  .next (arrive s ⟨y, so, d, r, v, c⟩)

end Sys2Proof.Machine
end

