-- ==== Sys2Proof/Machine/Dispatch.lean ====
section
/-! DEFINITION. The meaning of every operation, one arm per constructor of `Instr`, in the order of
spec/opcode_table.json. -/

namespace Sys2Proof.Machine

def exec (i : Instr) (s : State) : Host.Outcome State Fault Refusal :=
  match i with
  | .frameQuery y so d v c => Sys2Proof.Machine.execFrameQuery y so d v c s
  | .frameData y so d r v c => Sys2Proof.Machine.execFrameData y so d r v c s
  | .checksum y so d r v => Sys2Proof.Machine.execChecksum y so d r v s
  | .encode y so d r v => Sys2Proof.Machine.execEncode y so d r v s
  | .decode b => Sys2Proof.Machine.execDecode b s
  | .speedToValue n => Sys2Proof.Machine.execSpeedToValue n s
  | .valueToSpeed v => Sys2Proof.Machine.execValueToSpeed v s
  | .valueToRh v => Sys2Proof.Machine.execValueToRh v s
  | .valueToTemp v => Sys2Proof.Machine.execValueToTemp v s
  | .valueToDuty v => Sys2Proof.Machine.execValueToDuty v s
  | .valueRaw v => Sys2Proof.Machine.execValueRaw v s
  | .kindOf r => Sys2Proof.Machine.execKindOf r s
  | .translate r v => Sys2Proof.Machine.execTranslate r v s
  | .mkEvent t w => Sys2Proof.Machine.execMkEvent t w s
  | .isWriteAllowed r => Sys2Proof.Machine.execIsWriteAllowed r s
  | .buildQuery r => Sys2Proof.Machine.execBuildQuery r s
  | .buildWrite d r v => Sys2Proof.Machine.execBuildWrite d r v s
  | .forMe ev => Sys2Proof.Machine.execForMe ev s
  | .rxTop => Sys2Proof.Machine.execRxTop s
  | .rxReadOk => Sys2Proof.Machine.execRxReadOk s
  | .rxReadFail => Sys2Proof.Machine.execRxReadFail s
  | .rxAccept => Sys2Proof.Machine.execRxAccept s
  | .rxSlip => Sys2Proof.Machine.execRxSlip s
  | .rxScanEnd => Sys2Proof.Machine.execRxScanEnd s
  | .rxEnq => Sys2Proof.Machine.execRxEnq s
  | .txTop => Sys2Proof.Machine.execTxTop s
  | .txDeq => Sys2Proof.Machine.execTxDeq s
  | .txGatePass => Sys2Proof.Machine.execTxGatePass s
  | .txGateDeny => Sys2Proof.Machine.execTxGateDeny s
  | .txGapchk => Sys2Proof.Machine.execTxGapchk s
  | .txStamp => Sys2Proof.Machine.execTxStamp s
  | .txWrite => Sys2Proof.Machine.execTxWrite s
  | .query r => Sys2Proof.Machine.execQuery r s
  | .setSpeed n => Sys2Proof.Machine.execSetSpeed n s
  | .setDefaultFanSpeed n => Sys2Proof.Machine.execSetDefaultFanSpeed n s
  | .setMaxFanSpeed n => Sys2Proof.Machine.execSetMaxFanSpeed n s
  | .cmdPush d r v => Sys2Proof.Machine.execCmdPush d r v s
  | .evPop => Sys2Proof.Machine.execEvPop s
  | .status => Sys2Proof.Machine.execStatus s
  | .reservedCmd op a b c => Sys2Proof.Machine.execReservedCmd op a b c s
  | .sendInit => Sys2Proof.Machine.execSendInit s
  | .openSession cfg => Sys2Proof.Machine.execOpenSession cfg s

end Sys2Proof.Machine
end

