-- ==== Sys2Proof/WellFormed.lean ====
section
/-! DEFINITION. Which operations are well formed: those whose operands meet the constraints that spec/opcode_table.json
and the encoding rules put on them. The checks are about syntax; no meaning is withheld from a term that fails one. -/

namespace Sys2Proof

/-- A level that the signed 8-bit field of a host word can carry (spec/30_encoding.md R100; spec/92_eei_decisions.md
D26). -/
def levelFits (n : Int) : Bool :=
  decide (-128 ≤ n) && decide (n ≤ 127)

/-- An op of the reserved command words: 0x00 or 0x08..0xFF (spec/30_encoding.md R100, R102). -/
def opReserved (op : Byte) : Bool :=
  op == 0x00 || decide (8 ≤ op.toNat)

/-- The well-formed operations. -/
def Instr.wellFormed : Instr → Bool
  | .frameQuery y s d v c => Machine.valid ⟨y, s, d, Config.queryMark, v, c⟩
  | .frameData y s d r v c => r != Config.queryMark && Machine.valid ⟨y, s, d, r, v, c⟩
  | .mkEvent _ w => Machine.valid w
  | .setSpeed n => levelFits n
  | .setDefaultFanSpeed n => levelFits n
  | .setMaxFanSpeed n => levelFits n
  | .reservedCmd op _ _ _ => opReserved op
  | .checksum .. | .encode .. | .decode .. | .speedToValue .. | .valueToSpeed .. | .valueToRh .. | .valueToTemp ..
  | .valueToDuty .. | .valueRaw .. | .kindOf .. | .translate .. | .isWriteAllowed .. | .buildQuery .. | .buildWrite ..
  | .forMe .. | .rxTop | .rxReadOk | .rxReadFail | .rxAccept | .rxSlip | .rxScanEnd | .rxEnq | .txTop | .txDeq
  | .txGatePass | .txGateDeny | .txGapchk | .txStamp | .txWrite | .query .. | .cmdPush .. | .evPop | .status
  | .sendInit | .openSession .. => true

end Sys2Proof
end

