-- ==== Sys2Proof/Decode.lean ====
section
/-! DEFINITION. The decoder, total on every word, and after it the encoder. Three word forms exist: the 48-bit frame
(spec/30_encoding.md R91, R92), the 32-bit host command word (R100) and the step code (R102). The classes FUNC and
HOSTCALL have no bit pattern (spec/opcode_table.json), so their operations are selected by name. -/

namespace Sys2Proof

/-- Why a word is no operation. -/
inductive Reject where
  /-- 48 bits whose sixth byte is not the checksum of the first five: no frame (spec/30_encoding.md R97). -/
  | checksumMismatch
  /-- A step code that no row of the table has: phases 110 and 111, or a number past the last row of its phase
  (spec/30_encoding.md R102; spec/93_implementation_defined.md U3). -/
  | noSuchStep
  deriving DecidableEq, Repr

/-- The frame operations, told apart by the register byte alone (R92). -/
def decodeWire (w : BitVec 48) : Except Reject Instr :=
  let f := Machine.wordFrame w
  if Machine.valid f then
    if f.register = Config.queryMark then .ok (.frameQuery f.system f.source f.destination f.value f.checksum)
    else .ok (.frameData f.system f.source f.destination f.register f.value f.checksum)
  else .error .checksumMismatch

/-- The host command words (R100); every op outside 0x01..0x07 is RESERVED_CMD (R102). -/
def decodeHost (w : BitVec 32) : Instr :=
  let op : Byte := w.extractLsb' 24 8
  let a : Byte := w.extractLsb' 16 8
  let b : Byte := w.extractLsb' 8 8
  let c : Byte := w.extractLsb' 0 8
  if op = 0x01 then .query a
  else if op = 0x02 then .setSpeed (Machine.sext8 a)
  else if op = 0x03 then .setDefaultFanSpeed (Machine.sext8 a)
  else if op = 0x04 then .setMaxFanSpeed (Machine.sext8 a)
  else if op = 0x05 then .cmdPush a b c
  else if op = 0x06 then .evPop
  else if op = 0x07 then .status
  else .reservedCmd op a b c

/-- The rows of spec/opcode_table.json that share a phase code, in the table's order. -/
def phaseRows (code : BitVec 3) : List Instr :=
  if code = 0b000 then [.rxTop, .txTop]
  else if code = 0b001 then [.rxReadOk, .rxReadFail, .txDeq]
  else if code = 0b010 then [.rxAccept, .rxSlip, .rxScanEnd, .txGatePass, .txGateDeny]
  else if code = 0b011 then [.rxEnq, .txGapchk]
  else if code = 0b100 then [.txStamp]
  else if code = 0b101 then [.txWrite]
  else []

/-- A step code: the row that bits 7:3 number among those of the phase code in bits 2:0. -/
def decodePhase (w : BitVec 8) : Except Reject Instr :=
  match (phaseRows (w.extractLsb' 0 3))[(w.extractLsb' 3 5).toNat]? with
  | some i => .ok i
  | none => .error .noSuchStep

/-- The decoder. -/
def decode : CodeWord → Except Reject Instr
  | .wire w => decodeWire w
  | .host w => .ok (decodeHost w)
  | .phase w => decodePhase w

/-- The word of a step: its number among the rows of its phase, then the phase code. -/
def phaseWord (number : BitVec 5) (code : BitVec 3) : CodeWord :=
  .phase (number ++ code)

/-- The host word of a speed command: the level in its signed 8-bit field, the ignored bytes zero (R100). -/
def speedWord (op : Byte) (n : Int) : CodeWord :=
  .host (Machine.hostWord op (BitVec.ofInt 8 n) 0 0)

/-- The encoder: the word of an operation, `none` for the rows to which the spec gives no bit pattern. The operand bytes
that a host word ignores are written as zeros (R100). -/
def encode : Instr → Option CodeWord
  | .frameQuery y s d v c => some (.wire (Machine.frameWord ⟨y, s, d, Config.queryMark, v, c⟩))
  | .frameData y s d r v c => some (.wire (Machine.frameWord ⟨y, s, d, r, v, c⟩))
  | .rxTop => some (phaseWord 0 (Machine.rxPhaseCode .rxTop))
  | .rxReadOk => some (phaseWord 0 (Machine.rxPhaseCode .rxRead))
  | .rxReadFail => some (phaseWord 1 (Machine.rxPhaseCode .rxRead))
  | .rxAccept => some (phaseWord 0 (Machine.rxPhaseCode .rxScan))
  | .rxSlip => some (phaseWord 1 (Machine.rxPhaseCode .rxScan))
  | .rxScanEnd => some (phaseWord 2 (Machine.rxPhaseCode .rxScan))
  | .rxEnq => some (phaseWord 0 (Machine.rxPhaseCode .rxEnq))
  | .txTop => some (phaseWord 1 (Machine.txPhaseCode .txTop))
  | .txDeq => some (phaseWord 2 (Machine.txPhaseCode .txDeq))
  | .txGatePass => some (phaseWord 3 (Machine.txPhaseCode .txGate))
  | .txGateDeny => some (phaseWord 4 (Machine.txPhaseCode .txGate))
  | .txGapchk => some (phaseWord 1 (Machine.txPhaseCode .txGap))
  | .txStamp => some (phaseWord 0 (Machine.txPhaseCode .txWait))
  | .txWrite => some (phaseWord 0 (Machine.txPhaseCode .txWrite))
  | .query r => some (.host (Machine.hostWord 0x01 r 0 0))
  | .setSpeed n => some (speedWord 0x02 n)
  | .setDefaultFanSpeed n => some (speedWord 0x03 n)
  | .setMaxFanSpeed n => some (speedWord 0x04 n)
  | .cmdPush d r v => some (.host (Machine.hostWord 0x05 d r v))
  | .evPop => some (.host (Machine.hostWord 0x06 0 0 0))
  | .status => some (.host (Machine.hostWord 0x07 0 0 0))
  | .reservedCmd op a b c => some (.host (Machine.hostWord op a b c))
  | .checksum .. | .encode .. | .decode .. | .speedToValue .. | .valueToSpeed .. | .valueToRh .. | .valueToTemp ..
  | .valueToDuty .. | .valueRaw .. | .kindOf .. | .translate .. | .mkEvent .. | .isWriteAllowed .. | .buildQuery ..
  | .buildWrite .. | .forMe .. | .sendInit | .openSession .. => none

/-- The word form that an instruction of `nbits` bits has, numbered as spec/opcode_table.json numbers its bits: the step
codes have one byte, the host words 32 bits, the frames 48. -/
def codeWordOf (nbits w : Nat) : Option CodeWord :=
  if nbits = 0 then none
  else if nbits ≤ 8 then some (.phase (BitVec.ofNat 8 w))
  else if nbits ≤ 32 then some (.host (BitVec.ofNat 32 w))
  else if nbits ≤ 48 then some (.wire (BitVec.ofNat 48 w))
  else none

/-- The operation that the decoder reads from `w`, an instruction of `nbits` bits of the opcode table. -/
def decodeTableWord (nbits w : Nat) : Option Instr :=
  match codeWordOf nbits w with
  | none => none
  | some cw =>
    match decode cw with
    | .ok i => some i
    | .error _ => none

end Sys2Proof
end

