-- ==== Sys2Proof/Machine/Fetch.lean ====
section
/-! DEFINITION. From a turn of the schedule to the operation that runs. CORE has no program counter and fetches no
instructions (spec/10_state.md R24): the next operation is the one that the next turn names by a word or by its name, or
that an agent's phase register and guards select. The acts of LINE and CLOCK, and a waiting caller's retry, are
performed here; no row of the opcode table stands for them. -/

namespace Sys2Proof.Machine

/-! ### What an agent's phase selects (spec/10_state.md R25, R26) -/

/-- The step of RX that its phase and the guards enable (R25). -/
def rxSelect (s : State) : Option Instr :=
  match s.core.rxPhase with
  | .rxTop => some .rxTop
  | .rxRead =>
    match nextRead s.params.rxChunkMax s.core.line with
    | some (.ok _, _) => some .rxReadOk
    | some (.fail, _) => some .rxReadFail
    | none => none
  | .rxScan =>
    if s.core.winReady then (if s.core.winValid then some .rxAccept else some .rxSlip) else some .rxScanEnd
  | .rxEnq => if s.core.evqFull then none else some .rxEnq
  | .rxHalt => none

/-- The step of TX that its phase and the guards enable (R26). -/
def txSelect (s : State) : Option Instr :=
  match s.core.txPhase with
  | .txTop => some .txTop
  | .txDeq => if s.core.cmdqEmpty then none else some .txDeq
  | .txGate => if s.gateOpen then some .txGatePass else some .txGateDeny
  | .txGap => some .txGapchk
  | .txWait => if s.core.txDeadline ≤ s.now then some .txStamp else none
  | .txWrite => some .txWrite
  | .txHalt => none

/-- The enabled step of an agent; `none` while it is blocked or halted. -/
def select (a : Agent) (s : State) : Option Instr :=
  match a with
  | .rx => rxSelect s
  | .tx => txSelect s

/-! ### The acts of LINE, and the choice of a session -/

/-- What is left of an item that loses `n` bytes from offset `i` on; a chunk with no byte left is gone. -/
def loseBytes (i n : Nat) : Offer → List Offer
  | .ok bytes =>
    let left := bytes.take i ++ bytes.drop (i + n)
    if left.isEmpty then [] else [.ok left]
  | .fail => [.fail]

/-- An act of LINE on the transport of the current session, or on what opening a transport would give. -/
def lineAct (e : LineEvent) (s : State) : State :=
  match e with
  | .offer o => s.onCore fun c => c.setLine (c.line ++ [o])
  | .close => s.onCore fun c => c.setLine [.fail]
  | .lose k i n =>
    s.onCore fun c => c.setLine (c.line.take k ++ (c.line[k]?.map (loseBytes i n)).getD [] ++ c.line.drop (k + 1))
  | .openFails id err => { s with openErrors := (id, err) :: s.openErrors.filter fun e => e.1 != id }
  | .openWorks id => { s with openErrors := s.openErrors.filter fun e => e.1 != id }

/-- The k-th other session becomes the current one and the current one takes its place; without a k-th one nothing
changes. -/
def switchSession (k : Nat) (s : State) : State :=
  match s.others[k]? with
  | some c => { s with core := c, others := s.others.set k s.core }
  | none => s

/-- A word that is no operation: 48 bits that are no frame still arrive on the line as bytes (spec/30_encoding.md R97);
in an unreachable phase code no step is enabled (spec/93_implementation_defined.md U3; notes/assumptions/18.md). -/
def rejectWord (w : CodeWord) (s : State) : State :=
  match w with
  | .wire w => arrive s (wordFrame w)
  | .host _ => s
  | .phase _ => s

/-! ### The turn -/

/-- The next turn: the first of the agenda, or, when none is placed, whatever the free schedule supplies. -/
def takeTurn (s : State) : Turn × State :=
  match s.agenda with
  | t :: rest => (t, { s with agenda := rest })
  | [] => (Config.environment s.turn, { s with turn := s.turn + 1 })

/-- What a turn comes to: the state in which it acts, and the operation to run there, if any. -/
structure Fetched where
  state : State
  instr : Option Instr
  deriving DecidableEq, Repr

/-- The meaning of a turn. -/
def resolve (t : Turn) (s : State) : Fetched :=
  match t with
  | .word w =>
    match decode w with
    | .ok i => ⟨s, some i⟩
    | .error _ => ⟨rejectWord w s, none⟩
  | .call i => ⟨s, some i⟩
  | .agent a => ⟨s, select a s⟩
  | .caller k => ⟨s.onCore fun c => c.resume s.params.cmdqCap k, none⟩
  | .line e => ⟨lineAct e s, none⟩
  | .clock d => ⟨{ s with now := s.now + d }, none⟩
  | .session k => ⟨switchSession k s, none⟩

/-- The next turn, taken and resolved. -/
def fetch (s : State) : Fetched :=
  resolve (takeTurn s).1 (takeTurn s).2

/-! ### Placing a word -/

/-- The phase of RX that a step's row names. -/
def rxPhaseOf (i : Instr) : Option RxPhase :=
  match i with
  | .rxTop => some .rxTop
  | .rxReadOk => some .rxRead
  | .rxReadFail => some .rxRead
  | .rxAccept => some .rxScan
  | .rxSlip => some .rxScan
  | .rxScanEnd => some .rxScan
  | .rxEnq => some .rxEnq
  | _ => none

/-- The phase of TX that a step's row names. -/
def txPhaseOf (i : Instr) : Option TxPhase :=
  match i with
  | .txTop => some .txTop
  | .txDeq => some .txDeq
  | .txGatePass => some .txGate
  | .txGateDeny => some .txGate
  | .txGapchk => some .txGap
  | .txStamp => some .txWait
  | .txWrite => some .txWrite
  | _ => none

/-- The phase registers set to what a step's row names: for the class STEP the phase register is where the pattern of
the row stands (spec/30_encoding.md R102, R104). -/
def enterPhase (i : Instr) (c : Session) : Session :=
  { c with rxPhase := (rxPhaseOf i).getD c.rxPhase, txPhase := (txPhaseOf i).getD c.txPhase }

/-- The word placed as the next turn; the word of a step also stands in its phase register. -/
def placeWord (cw : CodeWord) (s : State) : State :=
  let placed : State := { s with agenda := .word cw :: s.agenda }
  match cw, decode cw with
  | .phase _, .ok i => placed.onCore (enterPhase i)
  | _, _ => placed

end Sys2Proof.Machine
end

