-- ==== Sys2Proof/Machine/Step.lean ====
section
/-! DEFINITION. One step of the machine: one turn of the schedule. -/

namespace Sys2Proof.Machine

/-- One step: the next turn is taken, and the operation it comes to runs; a turn that comes to none (a blocked agent, an
act of LINE or CLOCK, a caller's retry) is complete as it stands. -/
def step (s : State) : Host.Outcome State Fault Refusal :=
  match (fetch s).instr with
  | some i => exec i (fetch s).state
  | none => .next (fetch s).state

/-- The instruction `w` of `nbits` bits placed where `step` finds its next operation. -/
def State.withFetchWord (s : State) (nbits w : Nat) : State :=
  match codeWordOf nbits w with
  | some cw => placeWord cw s
  | none => s

end Sys2Proof.Machine
end

