-- ==== Sys2Proof/Safety.lean ====
section
/-! DEFINITION. What the claims speak of: the properties that hold of every session in every reachable state
(spec/10_state.md R51; spec/44_write_policy.md R233; spec/43_session.md R208), and the measure behind the shutdown rule
(spec/70_reset_and_hazards.md R328). -/

namespace Sys2Proof.Machine

/-- A property of every session of a state. -/
abbrev State.eachSession (s : State) (P : Session → Prop) : Prop :=
  ∀ c ∈ s.core :: s.others, P c

/-- The bounds, the clock, the phases and the address of R51: neither queue is over its capacity, LAST_ACTIVITY is not
later than NOW, at most five bytes are buffered while no scan runs, RUNNING has fallen exactly when RX has halted, and
the client address lies in the panel range (spec/10_state.md R30, R51). -/
abbrev Session.Sound (p : Params) (now : Nat) (c : Session) : Prop :=
  c.evq.length ≤ Config.evqCap ∧ c.cmdq.length ≤ p.cmdqCap ∧ c.lastActivity ≤ now ∧
    (c.rxPhase = .rxTop ∨ c.rxPhase = .rxRead → c.rxbuf.length ≤ 5) ∧
    (c.running = false ↔ c.rxPhase = .rxHalt) ∧ addrInRange c.clientAddr = true

/-- TX holds a frame that has passed the gate. -/
abbrev Session.pastGate (c : Session) : Prop :=
  c.txPhase = .txGap ∨ c.txPhase = .txWait ∨ c.txPhase = .txWrite

/-- Nothing leaves without passing the gate: every record of WIRE_OUT has an allowed register byte, and so has the frame
that TX holds past the gate (spec/44_write_policy.md R233 a). -/
abbrev Session.Gated (p : Params) (c : Session) : Prop :=
  (∀ r ∈ c.wireOut, isWriteAllowed p c.writeEn r.2.register = true) ∧
    (c.pastGate → isWriteAllowed p c.writeEn c.txf.register = true)

/-- The rate limit: neighbouring stamps are GAP apart, none is later than LAST_ACTIVITY, and while TX waits its deadline
is GAP after the last of them (spec/43_session.md R208). -/
abbrev Session.Paced (now : Nat) (c : Session) : Prop :=
  c.lastActivity ≤ now ∧ c.stamps.IsChain (fun t u => t + Config.gap ≤ u) ∧
    ∀ t ∈ c.stamps.getLast?, t ≤ c.lastActivity ∧ (c.txPhase = .txWait → t + Config.gap ≤ c.txDeadline)

/-- Every frame that CORE holds or has sent is valid (spec/10_state.md R23). -/
abbrev Session.FramesValid (c : Session) : Prop :=
  (∀ f ∈ c.cmdq, valid f = true) ∧ (∀ call ∈ c.callers, ∀ f ∈ call, valid f = true) ∧ valid c.txf = true ∧
    ∀ r ∈ c.wireOut, valid r.2 = true

/-- Every event that CORE holds carries the translation of its own register and raw byte (spec/43_session.md R194). -/
abbrev Session.EventsTranslated (p : Params) (c : Session) : Prop :=
  c.evr.tval = translate p c.evr.register c.evr.raw ∧ ∀ e ∈ c.evq, e.tval = translate p e.register e.raw

/-- How many frames this session may still have sent once RUNNING has fallen: those sent, and one more while TX has not
come back to the top of its loop (spec/70_reset_and_hazards.md R328). -/
def Session.sendBound (c : Session) : Nat :=
  c.wireOut.length +
    (match c.txPhase with
      | .txTop => 0
      | .txHalt => 0
      | .txDeq => 1
      | .txGate => 1
      | .txGap => 1
      | .txWait => 1
      | .txWrite => 1)

/-- What SCAN takes from the head of a buffer in one iteration: the six bytes of an accepted frame, or one slipped byte
(spec/42_framing.md R172). -/
inductive Piece where
  | frame (f : Frame)
  | slip (b : Byte)
  deriving DecidableEq, Repr

/-- The bytes of a piece, in order. -/
def Piece.bytes : Piece → List Byte
  | .frame f => frameBytes f
  | .slip b => [b]

/-- The frame of a piece that is one. -/
def Piece.accepted : Piece → Option Frame
  | .frame f => some f
  | .slip _ => none

/-- The next turn leaves the session that the turns act on as it is: it selects no other session and is no OPEN. -/
abbrev State.staysInSession (s : State) : Prop :=
  (∀ k, (takeTurn s).1 ≠ .session k) ∧ ∀ cfg, (fetch s).instr ≠ some (.openSession cfg)

end Sys2Proof.Machine
end

