-- ==== Sys2Proof/Certificates/Slice0/Obligations.lean ====
section
/-! DEFINITION. The statements for the provers. A statement about an operation gives the whole next state, so that it is
the frame too: a field that the record update does not name is unchanged. CORE has no memory of bytes at addresses
(spec/10_state.md R40), so its frame is that of its cells. -/

open Sys2Proof Sys2Proof.Machine

/-! ## The line and the codec -/

/-- A frame on the line, of either class, is six bytes in transmission order behind what the transport already holds,
and nothing else (spec/30_encoding.md R91, R92; spec/10_state.md R45; the model's reading, notes/assumptions/7.md). Any
48 bits on the line are, so also those whose sixth byte is not the checksum, which the decoder refuses as no frame (R97;
that they arrive all the same is the model's choice, notes/assumptions/18.md, in a turn of its own, 1.md). -/
def Obligations.WireFrameReachesTransport : Prop :=
  (∀ (y so d r v c : Byte) (s : State),
    exec (.frameQuery y so d v c) s
      = .next { s with core := { s.core with line := s.core.line ++ [.ok [y, so, d, 0x00, v, c]] } } ∧
    exec (.frameData y so d r v c) s
      = .next { s with core := { s.core with line := s.core.line ++ [.ok [y, so, d, r, v, c]] } }) ∧
  ∀ (y so d r v c : Byte) (s : State) (rest : List Turn),
    s.agenda = .word (.wire (y ++ so ++ d ++ r ++ v ++ c)) :: rest →
    (c.toNat ≠ (y.toNat + so.toNat + d.toNat + r.toNat + v.toNat) % 256 →
      decode (.wire (y ++ so ++ d ++ r ++ v ++ c)) = .error .checksumMismatch) ∧
    step s = .next { s with
      agenda := rest
      core := { s.core with line := s.core.line ++ [.ok [y, so, d, r, v, c]] } }

/-- CHECKSUM is the integer sum mod 256, the same when reduced after each addition, whatever the order of the bytes
(spec/40_codec.md R120). -/
def Obligations.ChecksumIsSumMod256 : Prop :=
  ∀ (y so d r v : Byte) (s : State), ∃ b : Byte,
    exec (.checksum y so d r v) s = .next { s with ret := .byte b } ∧
    b.toNat = (y.toNat + so.toNat + d.toNat + r.toNat + v.toNat) % 256 ∧
    b = y + so + d + r + v ∧
    ∀ y' so' d' r' v' : Byte, List.Perm [y, so, d, r, v] [y', so', d', r', v'] →
      exec (.checksum y' so' d' r' v') s = .next { s with ret := .byte b }

/-- ENCODE keeps its five operands and appends their sum mod 256, checking nothing; DECODE of what it makes returns
it, and ENCODE of a frame that DECODE returned makes that frame again (spec/40_codec.md R121, R123). -/
def Obligations.EncodeAppendsChecksumAndRoundTrips : Prop :=
  (∀ (y so d r v : Byte) (s : State), ∃ c : Byte,
    exec (.encode y so d r v) s = .next { s with ret := .frame ⟨y, so, d, r, v, c⟩ } ∧
    c.toNat = (y.toNat + so.toNat + d.toNat + r.toNat + v.toNat) % 256 ∧
    exec (.decode ⟨y, so, d, r, v, c⟩) s = .next { s with ret := .frame ⟨y, so, d, r, v, c⟩ }) ∧
  ∀ (b : Frame) (s : State), exec (.decode b) s = .next { s with ret := .frame b } →
    exec (.encode b.system b.source b.destination b.register b.value) s = .next { s with ret := .frame b }

/-- DECODE returns the frame exactly when the sixth byte is the sum of the first five mod 256, and signals
ChecksumMismatch for every other six bytes (spec/40_codec.md R122). -/
def Obligations.DecodeAcceptsExactlyValidWindows : Prop :=
  ∀ (b : Frame) (s : State),
    exec (.decode b) s =
      if b.checksum.toNat
          = (b.system.toNat + b.source.toNat + b.destination.toNat + b.register.toNat + b.value.toNat) % 256 then
        .next { s with ret := .frame b }
      else .next { s with ret := .error (.checksumMismatch b) }

/-- What the checksum detects: a change of exactly one of the six bytes always; a change that keeps the sum of the
first five mod 256 never; and exactly one sixth byte makes any five bytes a frame (spec/40_codec.md R124, which the
spec marks as its own inference from R120 and R122). -/
def Obligations.ChecksumDetectsOneByteChanges : Prop :=
  (∀ (f g : Frame), valid f = true →
    (∃ b : Byte, (b ≠ f.system ∧ g = { f with system := b }) ∨ (b ≠ f.source ∧ g = { f with source := b }) ∨
      (b ≠ f.destination ∧ g = { f with destination := b }) ∨ (b ≠ f.register ∧ g = { f with register := b }) ∨
      (b ≠ f.value ∧ g = { f with value := b }) ∨ (b ≠ f.checksum ∧ g = { f with checksum := b })) →
    ∀ s : State, exec (.decode g) s = .next { s with ret := .error (.checksumMismatch g) }) ∧
  (∀ (f g : Frame), valid f = true → g.checksum = f.checksum →
    g.system + g.source + g.destination + g.register + g.value
      = f.system + f.source + f.destination + f.register + f.value →
    ∀ s : State, exec (.decode g) s = .next { s with ret := .frame g }) ∧
  ∀ (y so d r v : Byte) (s : State), ∃ c : Byte, ∀ c' : Byte,
    exec (.decode ⟨y, so, d, r, v, c'⟩) s = .next { s with ret := .frame ⟨y, so, d, r, v, c'⟩ } ↔ c' = c

/-! ## The translator -/

/-- SPEED_TO_VALUE gives 2^n - 1 for a level in 1..8; any other integer gives no byte, and InvalidSpeedLevel is taken
and handed back (spec/41_translator.md R142; that the DIAG record of spec/60_exceptions.md R274 is made here too is
the model's reading, notes/assumptions/8.md). -/
def Obligations.SpeedPatternOfLevel : Prop :=
  ∀ (n : Int) (s : State),
    exec (.speedToValue n) s =
      if 1 ≤ n ∧ n ≤ 8 then .next { s with ret := .byte (BitVec.ofNat 8 (2 ^ n.toNat - 1)) }
      else .next { s with
        core := { s.core with diag := s.core.diag ++ [.invalidSpeedLevel n] }
        ret := .error (.invalidSpeedLevel n) }

/-- VALUE_TO_SPEED gives level n for the byte 2^n - 1, n in 1..8, and -1 for each of the other 248 bytes; it undoes
SPEED_TO_VALUE on the levels, and SPEED_TO_VALUE undoes it on the patterns (spec/41_translator.md R143). -/
def Obligations.LevelOfSpeedPattern : Prop :=
  ∀ (v : Byte) (s : State), ∃ i : Int,
    exec (.valueToSpeed v) s = .next { s with ret := .int i } ∧
    (∀ n : Nat, 1 ≤ n → n ≤ 8 → v.toNat = 2 ^ n - 1 →
      i = n ∧ exec (.speedToValue i) s = .next { s with ret := .byte v }) ∧
    ((∀ n : Nat, 1 ≤ n → n ≤ 8 → v.toNat ≠ 2 ^ n - 1) → i = -1) ∧
    ∀ n : Int, 1 ≤ n → n ≤ 8 → exec (.speedToValue n) s = .next { s with ret := .byte v } → i = n

/-- VALUE_TO_RH is the number of hundredths nearest to (v + 51) × 2500 / 51, with no tie, from 25.00 to 150.00
(spec/41_translator.md R144). -/
def Obligations.HumidityIsNearestHundredth : Prop :=
  ∀ (v : Byte) (s : State), ∃ m : Int,
    exec (.valueToRh v) s = .next { s with ret := .tval (.fix m .hundredths) } ∧
    2 * |51 * m - 2500 * ((v.toNat : Int) + 51)| < 51 ∧ 2500 ≤ m ∧ m ≤ 15000

/-- VALUE_TO_TEMP is the table's entry; for a legal table it never decreases, starts at -74 and ends at 100
(spec/41_translator.md R145). -/
def Obligations.TemperatureIsTableEntry : Prop :=
  ∀ (s : State), ∃ T : Byte → Int,
    (∀ v : Byte, exec (.valueToTemp v) s = .next { s with ret := .int (T v) } ∧
      s.params.tempTable[v.toNat]? = some (T v)) ∧
    (s.params.tempLegal → T 0 = -74 ∧ T 255 = 100 ∧ (∀ v w : Byte, v.toNat ≤ w.toNat → T v ≤ T w) ∧
      ∀ v : Byte, -74 ≤ T v ∧ T v ≤ 100)

/-- VALUE_TO_DUTY is 4v tenths, which denotes v / 2.5 exactly, and VALUE_RAW is the unsigned byte
(spec/41_translator.md R146, R147). -/
def Obligations.DutyAndRawValues : Prop :=
  ∀ (v : Byte) (s : State),
    exec (.valueToDuty v) s = .next { s with ret := .tval (.fix (4 * (v.toNat : Int)) .tenths) } ∧
    tvalRat (.fix (4 * (v.toNat : Int)) .tenths) = (v.toNat : Rat) / (5 / 2) ∧
    exec (.valueRaw v) s = .next { s with ret := .int v.toNat }

/-- KIND_OF: the four sets of register ids and, for every other byte, id 0 among them, the default kind
(spec/41_translator.md R141). -/
def Obligations.KindOfRegister : Prop :=
  ∀ (r : Byte) (s : State), s.params.regsLegal → ∃ k : Kind,
    exec (.kindOf r) s = .next { s with ret := .kind k } ∧
    (k = .fanSpeed ↔
      r ∈ [s.params.regFanSpeedCurrent, s.params.regFanSpeedDefault, s.params.regFanSpeedMax]) ∧
    (k = .rh ↔ r ∈ [s.params.regRhMax, s.params.regRh1, s.params.regRh2, s.params.regBasicHumidity]) ∧
    (k = .temp ↔
      r ∈ [s.params.regTempOutdoor, s.params.regTempExhaustIn, s.params.regTempExhaustOut, s.params.regTempSupply,
        s.params.regPostHeatingTarget, s.params.regPostHeatingSetpoint, s.params.regPreheating, s.params.regBypass]) ∧
    (k = .duty ↔ r ∈ [s.params.regPostHeatingOnTime, s.params.regPostHeatingOffTime]) ∧
    (r = 0 → k = .byDefault)

/-- TRANSLATE returns what the conversion of the register's Kind returns (spec/41_translator.md R148): for every Kind,
if KIND_OF answers it, TRANSLATE answers the value of that Kind's operation, integers as INT; and nothing but r, v and
the parameters counts. -/
def Obligations.TranslateFollowsKind : Prop :=
  ∀ (r v : Byte) (s : State), ∃ t : TVal,
    (∀ u : State, u.params = s.params → exec (.translate r v) u = .next { u with ret := .tval t }) ∧
    (exec (.kindOf r) s = .next { s with ret := .kind .fanSpeed } →
      ∃ i, t = .int i ∧ exec (.valueToSpeed v) s = .next { s with ret := .int i }) ∧
    (exec (.kindOf r) s = .next { s with ret := .kind .rh } → exec (.valueToRh v) s = .next { s with ret := .tval t }) ∧
    (exec (.kindOf r) s = .next { s with ret := .kind .temp } →
      ∃ i, t = .int i ∧ exec (.valueToTemp v) s = .next { s with ret := .int i }) ∧
    (exec (.kindOf r) s = .next { s with ret := .kind .duty } →
      exec (.valueToDuty v) s = .next { s with ret := .tval t }) ∧
    (exec (.kindOf r) s = .next { s with ret := .kind .byDefault } →
      ∃ i, t = .int i ∧ exec (.valueRaw v) s = .next { s with ret := .int i })

/-- MK_EVENT takes bytes 1 to 4 of a valid window and the translation of its register and value; the system and
checksum bytes are dropped; RX.ACCEPT builds its event from the window at NOW (spec/43_session.md R194). -/
def Obligations.EventOfWindow : Prop :=
  ∀ (t : Nat) (w : Frame) (s : State), valid w = true → ∃ tv : TVal,
    exec (.translate w.register w.value) s = .next { s with ret := .tval tv } ∧
    exec (.mkEvent t w) s
      = .next { s with ret := .event ⟨t, w.source, w.destination, w.register, w.value, tv⟩ } ∧
    ∀ rest : List Byte, s.core.rxPhase = .rxScan → s.core.rxbuf = frameBytes w ++ rest →
      ∃ u : State, exec .rxAccept s = .next u ∧
        exec (.mkEvent s.now w) s = .next { s with ret := .event u.core.evr }

/-! ## The policy, the builders and the filter -/

/-- IS_WRITE_ALLOWED: register 0 always; any other register only with writing enabled and in the set of four, of which
the outdoor temperature is not one (spec/44_write_policy.md R230, R231). -/
def Obligations.WriteAllowedTruthTable : Prop :=
  (∀ (r : Byte) (s : State),
    exec (.isWriteAllowed r) s = .next { s with ret := .bool (decide (r = 0x00 ∨ (s.core.writeEn = true ∧
      (r = s.params.regFanSpeedCurrent ∨ r = s.params.regFanSpeedDefault ∨ r = s.params.regFanSpeedMax ∨
        r = s.params.regProgramFlags)))) }) ∧
  ∀ s : State, s.params.regsLegal →
    exec (.isWriteAllowed s.params.regTempOutdoor) s = .next { s with ret := .bool false }

/-- BUILD_WRITE fills system 1 and the client's own address and checks nothing; BUILD_QUERY is a BUILD_WRITE to the
primary controller with register 0 and the wanted id as value (spec/45_commands.md R241, R242). -/
def Obligations.BuildersFillFrames : Prop :=
  (∀ (d r v : Byte) (s : State), ∃ c : Byte,
    exec (.buildWrite d r v) s = .next { s with ret := .frame ⟨0x01, s.core.clientAddr, d, r, v, c⟩ } ∧
    c.toNat = (1 + s.core.clientAddr.toNat + d.toNat + r.toNat + v.toNat) % 256) ∧
  ∀ (r : Byte) (s : State),
    exec (.buildQuery r) s = exec (.buildWrite s.params.addrController 0x00 r) s

/-- FOR_ME: the destination is the panel group or the client's own address, and no other field counts
(spec/45_commands.md R262). -/
def Obligations.ForMeLooksAtDestinationOnly : Prop :=
  ∀ (ev : Event) (s : State),
    exec (.forMe ev) s = .next { s with
      ret := .bool (decide (ev.destination = s.params.addrPanelGroup ∨ ev.destination = s.core.clientAddr)) }

/-! ## The inbound loop -/

/-- RX.TOP and TX.TOP go on while RUNNING is 1 and halt otherwise (spec/43_session.md R191, R201). -/
def Obligations.LoopTopsTestRunning : Prop :=
  ∀ s : State,
    (s.core.rxPhase = .rxTop → exec .rxTop s
      = .next { s with core := { s.core with rxPhase := if s.core.running then .rxRead else .rxHalt } }) ∧
    (s.core.txPhase = .txTop → exec .txTop s
      = .next { s with core := { s.core with txPhase := if s.core.running then .txDeq else .txHalt } })

/-- RX.READ_OK, when the transport's read returns a chunk: LAST_ACTIVITY is stamped, the bytes are appended unchanged
and in order, a scan follows unless the chunk is empty, and the chunk is no longer than RX_CHUNK_MAX
(spec/43_session.md R192). `nextRead` is what a read returns now and what the transport then still holds: that a long
chunk is read in parts and the rest of it stays is the model's reading (notes/assumptions/10.md), and the transport's
unread offers, `line`, are the model's (17.md). -/
def Obligations.RxReadAppendsChunk : Prop :=
  ∀ (s : State) (bytes : List Byte) (rest : List Offer), s.core.rxPhase = .rxRead →
    nextRead s.params.rxChunkMax s.core.line = some (.ok bytes, rest) →
    exec .rxReadOk s = .next { s with core := { s.core with
      lastActivity := s.now
      rxbuf := s.core.rxbuf ++ bytes
      rxPhase := if bytes.length ≥ 1 then .rxScan else .rxTop
      line := rest } } ∧
    ∀ m, s.params.rxChunkMax = some m → bytes.length ≤ m

/-- The transport's unread offers. What a read returns: nothing while the transport holds nothing; its failure; a chunk
that fits whole, and of a longer chunk its first RX_CHUNK_MAX bytes, the others staying in order (spec/10_state.md R45;
that the rest of a long chunk stays is the model's reading, notes/assumptions/10.md). What LINE does to them: a further
chunk or failure stands behind what is held, a loss takes any bytes out of any chunk and leaves the others in order, a
chunk with no byte left is gone, and nothing else changes (R45, R49; spec/70_reset_and_hazards.md R322; that these are
turns of LINE is the model's choice, notes/assumptions/17.md). -/
def Obligations.ReadReturnsOldestBytes : Prop :=
  (∀ (bytes : List Byte) (rest : List Offer) (m : Nat),
    nextRead (some m) [] = none ∧ nextRead none [] = none ∧
    nextRead (some m) (.fail :: rest) = some (.fail, rest) ∧ nextRead none (.fail :: rest) = some (.fail, rest) ∧
    nextRead none (.ok bytes :: rest) = some (.ok bytes, rest) ∧
    nextRead (some m) (.ok bytes :: rest) =
      if bytes.length ≤ m then some (.ok bytes, rest)
      else some (.ok (bytes.take m), .ok (bytes.drop m) :: rest)) ∧
  (∀ (s : State) (o : Offer) (rest : List Turn), s.agenda = .line (.offer o) :: rest →
    step s = .next { s with agenda := rest, core := { s.core with line := s.core.line ++ [o] } }) ∧
  ∀ (s : State) (pre post : List Offer) (kept₁ lost kept₂ : List Byte) (rest : List Turn),
    s.core.line = pre ++ .ok (kept₁ ++ lost ++ kept₂) :: post →
    s.agenda = .line (.lose pre.length kept₁.length lost.length) :: rest →
    step s = .next { s with
      agenda := rest
      core := { s.core with
        line := pre ++ (if kept₁ ++ kept₂ = [] then [] else [.ok (kept₁ ++ kept₂)]) ++ post } }

/-- RX.READ_FAIL: RUNNING falls and RX halts, and nothing else of the session changes (spec/43_session.md R193;
spec/60_exceptions.md R273). Closing the transport makes the next or the pending read such a failure (spec/10_state.md
R45). The transport's unread offers, of which the failure leaves none ("bytes the transport may have had are lost",
R193), and the close as a turn of LINE are the model's (notes/assumptions/10.md, 17.md). -/
def Obligations.RxReadFailureHalts : Prop :=
  (∀ (s : State) (rest : List Offer), s.core.rxPhase = .rxRead → s.core.line = .fail :: rest →
    exec .rxReadFail s
      = .next { s with core := { s.core with running := false, rxPhase := .rxHalt, line := [] } }) ∧
  ∀ (s : State) (rest : List Turn), s.agenda = .line .close :: rest →
    ∃ t : State, step s = .next t ∧ t = { s with agenda := rest, core := { s.core with line := t.core.line } } ∧
      nextRead t.params.rxChunkMax t.core.line = some (.fail, []) ∧
      (t.core.rxPhase = .rxRead → select .rx t = some .rxReadFail ∧
        exec .rxReadFail t
          = .next { t with core := { t.core with running := false, rxPhase := .rxHalt, line := [] } })

/-- RX.ACCEPT: a valid window becomes the event in EVR, stamped NOW, and exactly its six bytes are consumed
(spec/42_framing.md R173). -/
def Obligations.RxAcceptConsumesSix : Prop :=
  ∀ (s : State) (y so d r v c : Byte) (rest : List Byte), s.core.rxPhase = .rxScan →
    s.core.rxbuf = y :: so :: d :: r :: v :: c :: rest →
    c.toNat = (y.toNat + so.toNat + d.toNat + r.toNat + v.toNat) % 256 →
    ∃ tv : TVal, exec (.translate r v) s = .next { s with ret := .tval tv } ∧
      exec .rxAccept s = .next { s with core := { s.core with
        evr := ⟨s.now, so, d, r, v, tv⟩
        rxbuf := rest
        rxPhase := .rxEnq } }

/-- RX.SLIP: an invalid window loses exactly its first byte and nothing is recorded (spec/42_framing.md R174;
spec/60_exceptions.md R272). -/
def Obligations.RxSlipDiscardsOne : Prop :=
  ∀ (s : State) (y so d r v c : Byte) (rest : List Byte), s.core.rxPhase = .rxScan →
    s.core.rxbuf = y :: so :: d :: r :: v :: c :: rest →
    c.toNat ≠ (y.toNat + so.toNat + d.toNat + r.toNat + v.toNat) % 256 →
    exec .rxSlip s = .next { s with core := { s.core with rxbuf := so :: d :: r :: v :: c :: rest } }

/-- RX.SCAN_END: with fewer than six bytes left the buffer stays and RX goes back to the top (spec/42_framing.md
R175). -/
def Obligations.RxScanEndKeepsPartialBytes : Prop :=
  ∀ s : State, s.core.rxPhase = .rxScan → s.core.rxbuf.length < 6 →
    exec .rxScanEnd s = .next { s with core := { s.core with rxPhase := .rxTop } }

/-- RX.ENQ, with room in EVQ: the event is its new last and RX goes back to the scan (spec/43_session.md R195). -/
def Obligations.RxEnqueueAppendsEvent : Prop :=
  ∀ s : State, s.core.rxPhase = .rxEnq → s.core.evq.length < 100 →
    exec .rxEnq s
      = .next { s with core := { s.core with evq := s.core.evq ++ [s.core.evr], rxPhase := .rxScan } }

/-! ## The outbound loop -/

/-- TX.DEQ takes the oldest frame (spec/43_session.md R202). -/
def Obligations.TxDequeueTakesOldest : Prop :=
  ∀ (s : State) (f : Frame) (rest : List Frame), s.core.txPhase = .txDeq → s.core.cmdq = f :: rest →
    exec .txDeq s = .next { s with core := { s.core with txf := f, cmdq := rest, txPhase := .txGate } }

/-- TX.GATE_PASS sends a frame whose register byte IS_WRITE_ALLOWED on to the gap check; TX.GATE_DENY drops any other
with a DIAG record (5, frame) and goes back to the top (spec/43_session.md R203, R204; spec/60_exceptions.md R275). -/
def Obligations.GateDecidesOnRegisterByte : Prop :=
  ∀ s : State, s.core.txPhase = .txGate →
    if s.core.txf.register = 0x00 ∨ (s.core.writeEn = true ∧
        (s.core.txf.register = s.params.regFanSpeedCurrent ∨ s.core.txf.register = s.params.regFanSpeedDefault ∨
          s.core.txf.register = s.params.regFanSpeedMax ∨ s.core.txf.register = s.params.regProgramFlags)) then
      exec .txGatePass s = .next { s with core := { s.core with txPhase := .txGap } }
    else
      ∃ r : DiagRecord, r = .writeDenied s.core.txf ∧ diagCode r = 5 ∧
        exec .txGateDeny s = .next { s with core := { s.core with
          diag := s.core.diag ++ [r]
          txPhase := .txTop } }

/-- TX.GAPCHK: the deadline is the later of NOW and LAST_ACTIVITY + 50 ms, in one read (spec/43_session.md R205). -/
def Obligations.TxGapCheckSetsDeadline : Prop :=
  ∀ s : State, s.core.txPhase = .txGap →
    exec .txGapchk s = .next { s with core := { s.core with
      txDeadline := max s.now (s.core.lastActivity + 50000)
      txPhase := .txWait } }

/-- TX.STAMP, at or after the deadline: LAST_ACTIVITY becomes NOW (spec/43_session.md R206). The clause on `stamps`,
the record of the times of this step, is the model's ghost field (notes/assumptions/11.md). -/
def Obligations.TxStampWritesActivity : Prop :=
  ∀ s : State, s.core.txPhase = .txWait → s.now ≥ s.core.txDeadline →
    exec .txStamp s = .next { s with core := { s.core with
      lastActivity := s.now
      stamps := s.core.stamps ++ [s.now]
      txPhase := .txWrite } }

/-- TX.WRITE: the six bytes of TXF go out whole, recorded with NOW (spec/43_session.md R207). -/
def Obligations.TxWriteSendsFrame : Prop :=
  ∀ s : State, s.core.txPhase = .txWrite →
    exec .txWrite s = .next { s with core := { s.core with
      wireOut := s.core.wireOut ++ [(s.now, s.core.txf)]
      txPhase := .txTop } }

/-! ## The host port -/

/-- QUERY and CMD_PUSH, with room in CMDQ: the frame of BUILD_QUERY or BUILD_WRITE is its new last, and nothing is
returned (spec/45_commands.md R243, R244). -/
def Obligations.QueryAndPushQueueOneFrame : Prop :=
  ∀ (s : State) (d r v : Byte), s.core.cmdq.length < s.params.cmdqCap → ∃ f g : Frame,
    exec (.buildQuery r) s = .next { s with ret := .frame f } ∧
    exec (.query r) s = .next { s with core := { s.core with cmdq := s.core.cmdq ++ [f] } } ∧
    exec (.buildWrite d r v) s = .next { s with ret := .frame g } ∧
    exec (.cmdPush d r v) s = .next { s with core := { s.core with cmdq := s.core.cmdq ++ [g] } }

/-- A speed command with a level in 1..8: the controller's frame is pushed first, in this step if CMDQ has room, and
the panel group's frame is a push of its own that the caller still has to make (spec/45_commands.md R245 to R247; the
waiting caller is the model's own field, notes/assumptions/6.md). -/
def Obligations.SpeedCommandPushesControllerFirst : Prop :=
  ∀ (s : State) (n : Int) (i : Instr) (reg : Byte), 1 ≤ n → n ≤ 8 →
    (i = .setSpeed n ∧ reg = s.params.regFanSpeedCurrent ∨
      i = .setDefaultFanSpeed n ∧ reg = s.params.regFanSpeedDefault ∨
      i = .setMaxFanSpeed n ∧ reg = s.params.regFanSpeedMax) →
    ∃ (v : Byte) (f g : Frame),
      exec (.speedToValue n) s = .next { s with ret := .byte v } ∧
      exec (.buildWrite s.params.addrController reg v) s = .next { s with ret := .frame f } ∧
      exec (.buildWrite s.params.addrPanelGroup reg v) s = .next { s with ret := .frame g } ∧
      exec i s =
        if s.core.cmdq.length < s.params.cmdqCap then
          .next { s with core := { s.core with
            cmdq := s.core.cmdq ++ [f]
            callers := s.core.callers ++ [[g]] } }
        else .next { s with core := { s.core with callers := s.core.callers ++ [[f, g]] } }

/-- With room for two, a speed command and its caller's next turn queue both frames, the controller's first
(spec/45_commands.md R245 to R247; the two turns are the model's own, notes/assumptions/6.md). -/
def Obligations.SpeedCommandQueuesBothFrames : Prop :=
  ∀ (s : State) (n : Int) (i : Instr) (reg : Byte), 1 ≤ n → n ≤ 8 →
    (i = .setSpeed n ∧ reg = s.params.regFanSpeedCurrent ∨
      i = .setDefaultFanSpeed n ∧ reg = s.params.regFanSpeedDefault ∨
      i = .setMaxFanSpeed n ∧ reg = s.params.regFanSpeedMax) →
    s.core.cmdq.length + 2 ≤ s.params.cmdqCap →
    s.agenda = [.call i, .caller s.core.callers.length] →
    ∃ (v : Byte) (f g : Frame),
      exec (.speedToValue n) s = .next { s with ret := .byte v } ∧
      exec (.buildWrite s.params.addrController reg v) s = .next { s with ret := .frame f } ∧
      exec (.buildWrite s.params.addrPanelGroup reg v) s = .next { s with ret := .frame g } ∧
      Sys2Proof.core.run 2 s
        = .next { s with agenda := [], core := { s.core with cmdq := s.core.cmdq ++ [f, g] } }

/-- A level outside 1..8: a DIAG record (4, level), no frame, and nothing returned (spec/60_exceptions.md R274). -/
def Obligations.BadSpeedLevelQueuesNothing : Prop :=
  ∀ (s : State) (n : Int) (i : Instr), n < 1 ∨ 8 < n →
    (i = .setSpeed n ∨ i = .setDefaultFanSpeed n ∨ i = .setMaxFanSpeed n) →
    ∃ r : DiagRecord, r = .invalidSpeedLevel n ∧ diagCode r = 4 ∧
      exec i s = .next { s with core := { s.core with diag := s.core.diag ++ [r] } }

/-- Waiting at the host port. QUERY and CMD_PUSH on a full CMDQ leave their frame with a waiting caller. A waiting
caller's turn pushes its next frame if there is room, and the caller is gone when it was the last; without room it
goes on waiting. EV_POP on an empty EVQ changes nothing (spec/45_commands.md R240, R261, R264; the waiting callers and
their turns are the model's own, notes/assumptions/6.md). -/
def Obligations.HostWaitsForRoomOrEvents : Prop :=
  (∀ (s : State) (d r v : Byte), s.params.cmdqCap ≤ s.core.cmdq.length → ∃ f g : Frame,
    exec (.buildQuery r) s = .next { s with ret := .frame f } ∧
    exec (.query r) s = .next { s with core := { s.core with callers := s.core.callers ++ [[f]] } } ∧
    exec (.buildWrite d r v) s = .next { s with ret := .frame g } ∧
    exec (.cmdPush d r v) s = .next { s with core := { s.core with callers := s.core.callers ++ [[g]] } }) ∧
  (∀ (s : State) (k : Nat) (rest : List Turn) (f : Frame) (fs : List Frame),
    s.agenda = .caller k :: rest → s.core.callers[k]? = some (f :: fs) →
    step s =
      if s.core.cmdq.length < s.params.cmdqCap then
        .next { s with
          agenda := rest
          core := { s.core with
            cmdq := s.core.cmdq ++ [f]
            callers := if fs = [] then s.core.callers.eraseIdx k else s.core.callers.set k fs } }
      else .next { s with agenda := rest }) ∧
  ∀ s : State, s.core.evq = [] → exec .evPop s = .next s

/-- EV_POP hands out the oldest event and removes it; STATUS returns RUNNING and changes nothing else
(spec/45_commands.md R261, R263). -/
def Obligations.HostReadsEventsAndStatus : Prop :=
  (∀ (s : State) (e : Event) (rest : List Event), s.core.evq = e :: rest →
    exec .evPop s = .next { s with core := { s.core with evq := rest }, ret := .event e }) ∧
  ∀ s : State, exec .status s = .next { s with ret := .running s.core.running }

/-- Every host word whose op is 0x00 or 0x08..0xFF is the reserved command, which changes no state, makes no DIAG
record and returns nothing (spec/30_encoding.md R102; that this is a step and not a stop, notes/assumptions/9.md). -/
def Obligations.ReservedCommandChangesNothing : Prop :=
  ∀ (s : State) (op a b c : Byte) (rest : List Turn), op = 0 ∨ 8 ≤ op.toNat →
    decode (.host (op ++ a ++ b ++ c)) = .ok (.reservedCmd op a b c) ∧
    exec (.reservedCmd op a b c) s = .next s ∧
    (s.agenda = .word (.host (op ++ a ++ b ++ c)) :: rest → step s = .next { s with agenda := rest })

/-! ## Reset -/

/-- SEND_INIT queues exactly one query per catalogue register, in catalogue order (spec/45_commands.md R250). Its pushes
are separate steps (R264): with room in CMDQ the first is made in this step and a caller waits with the others, without
room the caller waits with all of them (R240). With room for the whole burst the caller's turns queue the others one by
one, so that an empty CMDQ then holds the burst and nothing else. The waiting caller and its turns are the model's own
(notes/assumptions/6.md, 15.md). -/
def Obligations.InitBurstQueuesCatalog : Prop :=
  ∀ s : State, ∃ qs : List Frame, qs.length = s.params.catalog.length ∧
    (∀ k (h : k < s.params.catalog.length), ∃ f, qs[k]? = some f ∧
      exec (.buildQuery (s.params.catalog[k])) s = .next { s with ret := .frame f }) ∧
    (qs = [] → exec .sendInit s = .next s) ∧
    (∀ f fs, qs = f :: fs → exec .sendInit s =
      if s.core.cmdq.length < s.params.cmdqCap then
        .next { s with core := { s.core with
          cmdq := s.core.cmdq ++ [f]
          callers := if fs = [] then s.core.callers else s.core.callers ++ [fs] } }
      else .next { s with core := { s.core with callers := s.core.callers ++ [f :: fs] } }) ∧
    (s.core.cmdq.length + s.params.catalog.length ≤ s.params.cmdqCap →
      s.agenda = .call .sendInit :: List.replicate (qs.length - 1) (.caller s.core.callers.length) →
      Sys2Proof.core.run (1 + (qs.length - 1)) s
        = .next { s with agenda := [], core := { s.core with cmdq := s.core.cmdq ++ qs } })

/-- OPEN with an address in range, a transport that opens and is not in use, and room for the init burst: a new
session with the configured cells, RUNNING set, RXBUF, EVQ and both traces empty, both agents at the top of their loops,
LAST_ACTIVITY not later than NOW, and CMDQ holding the init queries; its result has code 0, "no error",
where the five errors have the codes 1 to 5 (spec/70_reset_and_hazards.md R310, R311; spec/60_exceptions.md R270). The model's own: the new session becomes the
current one, and a transport is in use only while a session whose RUNNING has not fallen has it (notes/assumptions/12.md);
it starts with no unread offer (17.md), no waiting caller (6.md) and no ghost stamp (11.md). LINE decides whether opening
a transport works (R277, 17.md): after it fails for one, an OPEN there returns that error, after it works again such an
OPEN succeeds, and no other transport is touched. -/
def Obligations.OpenMakesFreshSession : Prop :=
  (∀ (s : State) (cfg : OpenConfig) (a : Byte), a = cfg.clientAddr.getD 0x27 → 0x20 ≤ a.toNat → a.toNat ≤ 0x2F →
    cfg.transport.isOpen = true ∨ s.openError cfg.transport.id = none →
    s.transportTaken cfg.transport.id = false → s.params.catalog.length ≤ s.params.cmdqCap →
    ∃ t : State, exec (.openSession cfg) s = .next t ∧
      t = { s with core := t.core, others := s.core :: s.others, ret := .session } ∧ openCode t.ret = some 0 ∧
      t.core.clientAddr = a ∧ t.core.writeEn = cfg.writeEn.getD false ∧
      t.core.debugSink = cfg.debugSink.getD .discard ∧ t.core.transport = cfg.transport.id ∧
      t.core.running = true ∧ t.core.lastActivity ≤ s.now ∧ t.core.rxbuf = [] ∧ t.core.evq = [] ∧
      t.core.wireOut = [] ∧ t.core.diag = [] ∧ t.core.rxPhase = .rxTop ∧ t.core.txPhase = .txTop ∧
      t.core.cmdq = s.params.catalog.map (buildQuery s.params a) ∧
      t.core.line = [] ∧ t.core.callers = [] ∧ t.core.stamps = []) ∧
  (∀ (a : Byte) (f : Frame) (n : Int), errorCode (.invalidAddress a) = 1 ∧ errorCode (.checksumMismatch f) = 2 ∧
    errorCode .transportReadFailure = 3 ∧ errorCode (.invalidSpeedLevel n) = 4 ∧ errorCode (.writeDenied f) = 5) ∧
  ∀ (s : State) (cfg : OpenConfig) (a : Byte) (rest : List Turn), a = cfg.clientAddr.getD 0x27 → 0x20 ≤ a.toNat →
    a.toNat ≤ 0x2F → cfg.transport.isOpen = false →
    (∀ err : Nat, s.agenda = .line (.openFails cfg.transport.id err) :: rest →
      ∃ t : State, step s = .next t ∧ t = { s with agenda := rest, openErrors := t.openErrors } ∧
        (∀ j, j ≠ cfg.transport.id → t.openError j = s.openError j) ∧
        exec (.openSession cfg) t = .next { t with ret := .transportError err }) ∧
    (s.agenda = .line (.openWorks cfg.transport.id) :: rest →
      s.transportTaken cfg.transport.id = false → s.params.catalog.length ≤ s.params.cmdqCap →
      ∃ t u : State, step s = .next t ∧ t = { s with agenda := rest, openErrors := t.openErrors } ∧
        (∀ j, j ≠ cfg.transport.id → t.openError j = s.openError j) ∧
        exec (.openSession cfg) t = .next u ∧ u.ret = .session)

/-- OPEN that fails: an address outside 0x20..0x2F is InvalidAddress, code 1, whatever the transport would do; an
address in range with a transport whose own open step fails is that error, to which CORE assigns no code; in both cases
nothing else happens (spec/60_exceptions.md R271, R277; the code 1, R270). -/
def Obligations.FailedOpenChangesNothing : Prop :=
  ∀ (s : State) (cfg : OpenConfig) (a : Byte), a = cfg.clientAddr.getD 0x27 →
    (a.toNat < 0x20 ∨ 0x2F < a.toNat → ∃ r : Result,
      exec (.openSession cfg) s = .next { s with ret := r } ∧ r = .error (.invalidAddress a) ∧ openCode r = some 1) ∧
    (∀ e : Nat, 0x20 ≤ a.toNat → a.toNat ≤ 0x2F → cfg.transport.isOpen = false →
      s.openError cfg.transport.id = some e → ∃ r : Result,
        exec (.openSession cfg) s = .next { s with ret := r } ∧ r = .transportError e ∧ openCode r = none)

/-- Where OPEN stops: it is refused on a transport in use (spec/93_implementation_defined.md U20), and it never returns
if the init burst does not fit (spec/70_reset_and_hazards.md R329, which the spec marks as its own inference; U14). The
model's own: a transport is in use only while a session whose RUNNING has not fallen has it, so that one which a halted
session has is not (notes/assumptions/12.md), and an OPEN that never returns is a fault (16.md). -/
def Obligations.OpenStopsOnSharedTransportOrSmallQueue : Prop :=
  ∀ (s : State) (cfg : OpenConfig) (a : Byte), a = cfg.clientAddr.getD 0x27 → 0x20 ≤ a.toNat → a.toNat ≤ 0x2F →
    cfg.transport.isOpen = true ∨ s.openError cfg.transport.id = none →
    (s.transportTaken cfg.transport.id = true → exec (.openSession cfg) s = .refused .sharedTransport) ∧
    (s.transportTaken cfg.transport.id = false → s.params.cmdqCap < s.params.catalog.length →
      exec (.openSession cfg) s = .fault .openBlocked)

/-- The reset state has the values of a return of OPEN (spec/10_state.md R50) with the default configuration; that it is
this configuration is the model's choice (notes/assumptions/20.md), and so are NOW and T_LAST_RESET (4.md). That its
parameters are legal is a fact about the instantiation T0, which is presumed (2.md). EVR, TXF and TX_DEADLINE, which the
spec leaves open, are not named. -/
def Obligations.ResetStateIsOpened : Prop :=
  State.reset.core.clientAddr = 0x27 ∧ State.reset.core.writeEn = false ∧ State.reset.core.debugSink = .discard ∧
  State.reset.core.running = true ∧ State.reset.core.lastActivity ≤ State.reset.now ∧
  State.reset.core.rxbuf = [] ∧ State.reset.core.evq = [] ∧
  State.reset.core.cmdq = State.reset.params.catalog.map (buildQuery State.reset.params 0x27) ∧
  State.reset.core.rxPhase = .rxTop ∧ State.reset.core.txPhase = .txTop ∧
  State.reset.core.wireOut = [] ∧ State.reset.core.diag = [] ∧ State.reset.params.Legal

/-! ## The step -/

/-- A step takes the next turn, of the agenda or, when that is empty, of the free schedule, and runs the operation that a
word decodes to, that a name gives, or that an agent's phase and guards select (spec/00_scope.md R16; spec/10_state.md
R24); in a turn of CLOCK, NOW grows and nothing else changes (R47). The turns and the agenda are the model's own
(notes/assumptions/1.md), and so is that a blocked agent's turn changes nothing (6.md). A turn that selects another
session exchanges it whole with the current one; without such a session nothing changes (12.md). A step word that the
decoder refuses, among them every word with a code in which no step is enabled, changes nothing (R102; 3.md, 18.md). A
host word or a frame placed by `withFetchWord` runs next, in the state as it was; the word of a step is placed in its
phase register too, whose code its low three bits are, and no other cell changes (3.md). -/
def Obligations.StepRunsDecodedOperation : Prop :=
  (∀ (s : State) (w : CodeWord) (i : Instr) (rest : List Turn), s.agenda = .word w :: rest → decode w = .ok i →
    step s = exec i { s with agenda := rest }) ∧
  (∀ (s : State) (i : Instr) (rest : List Turn), s.agenda = .call i :: rest →
    step s = exec i { s with agenda := rest }) ∧
  (∀ (s : State) (a : Agent) (rest : List Turn), s.agenda = .agent a :: rest →
    step s = match select a { s with agenda := rest } with
      | some i => exec i { s with agenda := rest }
      | none => .next { s with agenda := rest }) ∧
  (∀ (s : State) (d : Nat) (rest : List Turn), s.agenda = .clock d :: rest →
    step s = .next { s with agenda := rest, now := s.now + d }) ∧
  (∀ (s : State) (k : Nat) (rest : List Turn), s.agenda = .session k :: rest →
    (∀ c, s.others[k]? = some c →
      step s = .next { s with agenda := rest, core := c, others := s.others.set k s.core }) ∧
    (s.others[k]? = none → step s = .next { s with agenda := rest })) ∧
  (∀ (s : State) (w : BitVec 8) (rest : List Turn), s.agenda = .word (.phase w) :: rest →
    (∀ e, decode (.phase w) = .error e → step s = .next { s with agenda := rest }) ∧
    (w.extractLsb' 0 3 = 0b110 ∨ w.extractLsb' 0 3 = 0b111 → decode (.phase w) = .error .noSuchStep)) ∧
  (∀ s : State, s.agenda = [] →
    step s = step { s with agenda := [Config.environment s.turn], turn := s.turn + 1 }) ∧
  (∀ (s : State) (w : BitVec 32) (i : Instr), decode (.host w) = .ok i →
    step (s.withFetchWord 32 w.toNat) = exec i s) ∧
  (∀ (s : State) (w : BitVec 48) (i : Instr), decode (.wire w) = .ok i →
    step (s.withFetchWord 48 w.toNat) = exec i s) ∧
  ∀ (s : State) (w : BitVec 8) (i : Instr), decode (.phase w) = .ok i →
    (∃ p, rxPhaseOf i = some p ∧ txPhaseOf i = none ∧ rxPhaseCode p = w.extractLsb' 0 3 ∧
      step (s.withFetchWord 8 w.toNat) = exec i { s with core := { s.core with rxPhase := p } }) ∨
    ∃ p, txPhaseOf i = some p ∧ rxPhaseOf i = none ∧ txPhaseCode p = w.extractLsb' 0 3 ∧
      step (s.withFetchWord 8 w.toNat) = exec i { s with core := { s.core with txPhase := p } }

/-- The guards of each agent's steps are exclusive and the selected step is the enabled one: it changes the state, and
every other step of the same agent changes nothing (spec/10_state.md R25, R26; spec/42_framing.md R176, inferences the
spec marks as its own; that a step that is not enabled leaves the state, notes/assumptions/6.md). -/
def Obligations.SelectedStepIsTheEnabledOne : Prop :=
  ∀ (s : State) (i : Instr),
    (rxPhaseOf i ≠ none → (select .rx s = some i → ∃ t, exec i s = .next t ∧ t ≠ s) ∧
      (select .rx s ≠ some i → exec i s = .next s)) ∧
    (txPhaseOf i ≠ none → (select .tx s = some i → ∃ t, exec i s = .next t ∧ t ≠ s) ∧
      (select .tx s ≠ some i → exec i s = .next s))

/-- A step ends in a fault only inside OPEN with a CMDQ too small for the init burst, and in a refusal only inside OPEN
on a transport in use, that is, one which a session whose RUNNING has not fallen has; with legal parameters no step
faults. That the fault and the refusal are OPEN's only stops is the model's reading (notes/assumptions/16.md, 12.md), and
so is that a reserved host word is a step (9.md). -/
def Obligations.OnlyOpenStops : Prop :=
  ∀ s : State,
    (s.params.catalog.length ≤ s.params.cmdqCap → ∀ r, step s ≠ .fault r) ∧
    (∀ r, step s = .fault r → r = .openBlocked ∧ s.params.cmdqCap < s.params.catalog.length ∧
      ∃ cfg, (fetch s).instr = some (.openSession cfg)) ∧
    ∀ q, step s = .refused q → q = .sharedTransport ∧
      ∃ cfg, (fetch s).instr = some (.openSession cfg) ∧ s.transportTaken cfg.transport.id = true

/-! ## Encodings -/

/-- A few words written out from the encodings: host words (spec/30_encoding.md R100; spec/95_test_vectors.md V-H1 to
V-H13), a query frame and a data frame (R91), and 48 bits that are no frame. The last two are step words: their low
three bits are the phase codes of R102, and the row number above these, which tells RX.ACCEPT from the four other rows
with code 010, is the model's own (notes/assumptions/3.md). -/
def Obligations.WordsDecodeAsEncoded : Prop :=
  decode (.host 0x01350000) = .ok (.query 0x35) ∧ decode (.host 0x02030000) = .ok (.setSpeed 3) ∧
  decode (.host 0x02FF0000) = .ok (.setSpeed (-1)) ∧ decode (.host 0x05113280) = .ok (.cmdPush 0x11 0x32 0x80) ∧
  decode (.host 0x06000000) = .ok .evPop ∧ decode (.host 0xFF123456) = .ok (.reservedCmd 0xFF 0x12 0x34 0x56) ∧
  decode (.wire 0x012711002962) = .ok (.frameQuery 0x01 0x27 0x11 0x29 0x62) ∧
  decode (.wire 0x0111203598FF) = .ok (.frameData 0x01 0x11 0x20 0x35 0x98 0xFF) ∧
  decode (.wire 0x011120359800) = .error .checksumMismatch ∧ decode (.phase 0b00000010) = .ok .rxAccept ∧
  decode (.phase 0b00000100) = .ok .txStamp

/-- Decode undoes encode: the word of every well-formed operation that has one decodes to that operation, with every
operand at every value the encoding admits (spec/30_encoding.md R91, R92, R100, R102). Several rows share one phase code
(R102, R104); that the word of a step names its row is by the row number above the code, which is the model's own
(notes/assumptions/3.md). -/
def Obligations.DecodeEncodeAgree : Prop :=
  ∀ (i : Instr) (w : CodeWord), i.wellFormed = true → encode i = some w → decode w = .ok i

/-- Encode undoes decode: what a frame or a step word decodes to encodes to that word; what a host word decodes to
encodes to a host word with the same meaning; and the decoder answers well-formed operations only (spec/30_encoding.md
R91, R92, R100, R102). For a step word this rests on the row number above the phase code, which is the model's own
(notes/assumptions/3.md). -/
def Obligations.EncodeDecodeAgree : Prop :=
  ∀ (w : CodeWord) (i : Instr), decode w = .ok i →
    i.wellFormed = true ∧ ∃ w', encode i = some w' ∧ decode w' = .ok i ∧ ((∀ h, w ≠ .host h) → w' = w)

/-! ## Invariants -/

/-- The bounds, phases, clock and address invariants of spec/10_state.md R51 (`Session.Sound`; the spec marks R51 as
its own inference) are kept by every step, for every session. -/
def Obligations.SoundSessionsStaySound : Prop :=
  ∀ s t : State, s.eachSession (Session.Sound s.params s.now) → step s = .next t →
    t.eachSession (Session.Sound t.params t.now)

/-- Nothing leaves without passing the write gate (`Session.Gated`): kept by every step (spec/44_write_policy.md R233
a, which the spec marks as its own inference). -/
def Obligations.GateHoldsOnEveryStep : Prop :=
  ∀ s t : State, s.eachSession (Session.Gated s.params) → step s = .next t → t.eachSession (Session.Gated t.params)

/-- The rate limit (`Session.Paced`): any two neighbouring TX.STAMP steps of a session are at least 50 ms apart, kept
by every step (spec/43_session.md R208, which the spec marks as its own inference; the stamps are the model's ghost
record, notes/assumptions/11.md). -/
def Obligations.StampsStayFiftyMillisecondsApart : Prop :=
  ∀ s t : State, s.eachSession (Session.Paced s.now) → step s = .next t → t.eachSession (Session.Paced t.now)

/-- Every frame that CORE queues, holds or sends is valid (`Session.FramesValid`), and with legal parameters every
event it holds carries the translation of its register and raw byte (`Session.EventsTranslated`): both are kept by
every step (spec/10_state.md R23, in part the spec's own inference; spec/43_session.md R194; that EVR starts as the
event of a zero window, notes/assumptions/5.md). -/
def Obligations.HeldFramesAndEventsStayRight : Prop :=
  ∀ s t : State, step s = .next t →
    (s.eachSession Session.FramesValid → t.eachSession Session.FramesValid) ∧
    (s.params.regsLegal → s.eachSession (Session.EventsTranslated s.params) →
      t.params = s.params ∧ t.eachSession (Session.EventsTranslated t.params))

/-- The invariants hold at reset. The reset state is a default OPEN of T0 at time 0, which is the model's choice
(notes/assumptions/2.md, 4.md, 20.md), and the clauses on EVR and TXF hold of it only because the model chose zero for
the two (5.md). -/
def Obligations.ResetMeetsInvariants : Prop :=
  State.reset.eachSession (Session.Sound State.reset.params State.reset.now) ∧
  State.reset.eachSession (Session.Gated State.reset.params) ∧
  State.reset.eachSession (Session.Paced State.reset.now) ∧ State.reset.eachSession Session.FramesValid ∧
  State.reset.eachSession (Session.EventsTranslated State.reset.params)

/-! ## Rules of the whole machine -/

/-- Within a session no step changes the configuration, raises RUNNING, turns the clock back, rewrites what was sent
or recorded, or moves LAST_ACTIVITY backwards; the other sessions and the parameters stay (spec/10_state.md R28, R51;
spec/43_session.md R209 b, inferences the spec marks as its own; spec/70_reset_and_hazards.md R311; what stays in a
session, notes/assumptions/12.md). What has reached the debug sink is nothing where it discards, and every DIAG record,
in the order they were made, for a sink of the host's (spec/10_state.md R32; spec/60_exceptions.md R276; that it is
computed from DIAG is the model's choice, notes/assumptions/21.md). -/
def Obligations.ConfigurationAndHistoryPersist : Prop :=
  ∀ s t : State, s.staysInSession → step s = .next t →
    t.params = s.params ∧ t.others = s.others ∧ t.core.clientAddr = s.core.clientAddr ∧
    t.core.writeEn = s.core.writeEn ∧ t.core.debugSink = s.core.debugSink ∧ t.core.transport = s.core.transport ∧
    (t.core.running = true → s.core.running = true) ∧ s.now ≤ t.now ∧ s.core.wireOut <+: t.core.wireOut ∧
    s.core.diag <+: t.core.diag ∧ (s.core.lastActivity ≤ s.now → s.core.lastActivity ≤ t.core.lastActivity) ∧
    s.core.delivered <+: t.core.delivered ∧ (s.core.debugSink = .discard → t.core.delivered = []) ∧
    ∀ id, s.core.debugSink = .host id → t.core.delivered = t.core.diag

/-- Both queues are first-in first-out: within a session a step leaves EVQ as it is, adds one event at its end or
removes its first; and leaves CMDQ as it is, adds frames at its end or removes its first (spec/20_memory.md R71, R73).
-/
def Obligations.QueuesAreFirstInFirstOut : Prop :=
  ∀ s t : State, s.staysInSession → step s = .next t →
    (t.core.evq = s.core.evq ∨ (∃ e, t.core.evq = s.core.evq ++ [e]) ∨ ∃ e, s.core.evq = e :: t.core.evq) ∧
    ((∃ fs, t.core.cmdq = s.core.cmdq ++ fs) ∨ ∃ f, s.core.cmdq = f :: t.core.cmdq)

/-- Once RUNNING has fallen it stays down, and the session sends at most one more frame (spec/43_session.md R210;
spec/70_reset_and_hazards.md R328; both are inferences the spec marks as its own). -/
def Obligations.AtMostOneFrameAfterShutdown : Prop :=
  ∀ s t : State, s.core.running = false → s.staysInSession → step s = .next t →
    t.core.running = false ∧ t.core.sendBound ≤ s.core.sendBound

/-- The two loops share only RUNNING, LAST_ACTIVITY and the transport: no step of RX changes a private cell of TX,
CMDQ or what was sent or recorded, and no step of TX changes a private cell of RX, EVQ, RUNNING or what the transport
holds (spec/60_exceptions.md R293). -/
def Obligations.LoopsOwnTheirPrivateCells : Prop :=
  ∀ (s t : State) (i : Instr), exec i s = .next t →
    (rxPhaseOf i ≠ none → t = { s with core := { s.core with
      rxPhase := t.core.rxPhase, rxbuf := t.core.rxbuf, evr := t.core.evr, evq := t.core.evq,
      running := t.core.running, lastActivity := t.core.lastActivity, line := t.core.line } }) ∧
    (txPhaseOf i ≠ none → t = { s with core := { s.core with
      txPhase := t.core.txPhase, txf := t.core.txf, txDeadline := t.core.txDeadline, cmdq := t.core.cmdq,
      lastActivity := t.core.lastActivity, wireOut := t.core.wireOut, diag := t.core.diag,
      stamps := t.core.stamps } })

/-- What an operation that is no agent's step and no OPEN returns depends on the configuration, RUNNING and EVQ only:
HOST cannot read RXBUF, LAST_ACTIVITY, CMDQ, the phases, TXF or EVR (spec/10_state.md R46). -/
def Obligations.HostCannotReadPrivateCells : Prop :=
  ∀ (s₁ s₂ t₁ t₂ : State) (i : Instr), rxPhaseOf i = none → txPhaseOf i = none → (∀ cfg, i ≠ .openSession cfg) →
    s₁.params = s₂.params → s₁.ret = s₂.ret → s₁.core.clientAddr = s₂.core.clientAddr →
    s₁.core.writeEn = s₂.core.writeEn → s₁.core.running = s₂.core.running → s₁.core.evq = s₂.core.evq →
    exec i s₁ = .next t₁ → exec i s₂ = .next t₂ → t₁.ret = t₂.ret

/-! ## The framing engine -/

/-- The RX agent's steps are the function SCAN: from RX_SCAN, with room in EVQ for its frames, some number of RX turns
brings the agent back to RX_TOP with the events of exactly the frames SCAN extracts, in order, and exactly the bytes
it leaves (spec/42_framing.md R172; the agenda of RX turns is the model's own, notes/assumptions/1.md). -/
def Obligations.RxTurnsComputeScan : Prop :=
  ∀ (s : State) (fs : List Frame) (rest : List Byte), s.core.rxPhase = .rxScan → scan s.core.rxbuf = (fs, rest) →
    s.core.evq.length + fs.length ≤ 100 →
    ∃ n, Sys2Proof.core.run n { s with agenda := List.replicate n (.agent .rx) } = .next { s with
      agenda := []
      core := { s.core with
        rxPhase := .rxTop
        rxbuf := rest
        evq := s.core.evq ++ fs.map (mkEvent s.params s.now)
        evr := (fs.getLast?.map (mkEvent s.params s.now)).getD s.core.evr } }

/-- Independence of chunking: scanning a stream cut anywhere, the second part after what the first left over, accepts
the frames of the whole stream in the same order and leaves the same bytes (spec/42_framing.md R177, which the spec
marks as its own inference). -/
def Obligations.ScanIgnoresChunking : Prop :=
  ∀ a b : List Byte,
    scan (a ++ b) = ((scan a).1 ++ (scan ((scan a).2 ++ b)).1, (scan ((scan a).2 ++ b)).2)

/-- SCAN accounts for every byte: the buffer is, in order, the pieces that SCAN takes one by one and then the bytes it
leaves, at most five. Each piece is the frame of the valid window that stands at the head there, or the first byte of an
invalid one, and the frames among the pieces are those SCAN accepts, in order (spec/42_framing.md R172; R176, which the
spec marks as its own inference). -/
def Obligations.ScanAccountsForEveryByte : Prop :=
  ∀ (buf : List Byte) (fs : List Frame) (rest : List Byte), scan buf = (fs, rest) →
    rest.length ≤ 5 ∧ (∀ f ∈ fs, valid f = true) ∧
    ∃ pieces : List Piece, buf = pieces.flatMap Piece.bytes ++ rest ∧ pieces.filterMap Piece.accepted = fs ∧
      buf.length = 6 * fs.length + (pieces.length - fs.length) + rest.length ∧
      ∀ before p behind, pieces = before ++ p :: behind →
        ∃ w, window (p.bytes ++ behind.flatMap Piece.bytes ++ rest) = some w ∧
          (p = .frame w ∧ valid w = true ∨ p = .slip w.system ∧ valid w = false)
end

