-- ==== Sys2Proof/Laws/State.lean ====
section
/-! SUPPORT. One lemma per field per update of a session and of the state, each true by rfl, so that no later proof
unfolds an update. -/

namespace Sys2Proof.Machine

variable (c : Session) (s : State)

/-! ### `bufAppend` -/

@[simp] theorem Session.bufAppend_clientAddr (bytes : List Byte) :
    (c.bufAppend bytes).clientAddr = c.clientAddr := rfl
@[simp] theorem Session.bufAppend_writeEn (bytes : List Byte) : (c.bufAppend bytes).writeEn = c.writeEn := rfl
@[simp] theorem Session.bufAppend_debugSink (bytes : List Byte) : (c.bufAppend bytes).debugSink = c.debugSink := rfl
@[simp] theorem Session.bufAppend_transport (bytes : List Byte) : (c.bufAppend bytes).transport = c.transport := rfl
@[simp] theorem Session.bufAppend_running (bytes : List Byte) : (c.bufAppend bytes).running = c.running := rfl
@[simp] theorem Session.bufAppend_lastActivity (bytes : List Byte) :
    (c.bufAppend bytes).lastActivity = c.lastActivity := rfl
@[simp] theorem Session.bufAppend_rxbuf (bytes : List Byte) : (c.bufAppend bytes).rxbuf = c.rxbuf ++ bytes := rfl
@[simp] theorem Session.bufAppend_evq (bytes : List Byte) : (c.bufAppend bytes).evq = c.evq := rfl
@[simp] theorem Session.bufAppend_cmdq (bytes : List Byte) : (c.bufAppend bytes).cmdq = c.cmdq := rfl
@[simp] theorem Session.bufAppend_rxPhase (bytes : List Byte) : (c.bufAppend bytes).rxPhase = c.rxPhase := rfl
@[simp] theorem Session.bufAppend_evr (bytes : List Byte) : (c.bufAppend bytes).evr = c.evr := rfl
@[simp] theorem Session.bufAppend_txPhase (bytes : List Byte) : (c.bufAppend bytes).txPhase = c.txPhase := rfl
@[simp] theorem Session.bufAppend_txf (bytes : List Byte) : (c.bufAppend bytes).txf = c.txf := rfl
@[simp] theorem Session.bufAppend_txDeadline (bytes : List Byte) :
    (c.bufAppend bytes).txDeadline = c.txDeadline := rfl
@[simp] theorem Session.bufAppend_wireOut (bytes : List Byte) : (c.bufAppend bytes).wireOut = c.wireOut := rfl
@[simp] theorem Session.bufAppend_diag (bytes : List Byte) : (c.bufAppend bytes).diag = c.diag := rfl
@[simp] theorem Session.bufAppend_line (bytes : List Byte) : (c.bufAppend bytes).line = c.line := rfl
@[simp] theorem Session.bufAppend_callers (bytes : List Byte) : (c.bufAppend bytes).callers = c.callers := rfl
@[simp] theorem Session.bufAppend_stamps (bytes : List Byte) : (c.bufAppend bytes).stamps = c.stamps := rfl

/-! ### `bufDrop` -/

@[simp] theorem Session.bufDrop_clientAddr (n : Nat) : (c.bufDrop n).clientAddr = c.clientAddr := rfl
@[simp] theorem Session.bufDrop_writeEn (n : Nat) : (c.bufDrop n).writeEn = c.writeEn := rfl
@[simp] theorem Session.bufDrop_debugSink (n : Nat) : (c.bufDrop n).debugSink = c.debugSink := rfl
@[simp] theorem Session.bufDrop_transport (n : Nat) : (c.bufDrop n).transport = c.transport := rfl
@[simp] theorem Session.bufDrop_running (n : Nat) : (c.bufDrop n).running = c.running := rfl
@[simp] theorem Session.bufDrop_lastActivity (n : Nat) : (c.bufDrop n).lastActivity = c.lastActivity := rfl
@[simp] theorem Session.bufDrop_rxbuf (n : Nat) : (c.bufDrop n).rxbuf = c.rxbuf.drop n := rfl
@[simp] theorem Session.bufDrop_evq (n : Nat) : (c.bufDrop n).evq = c.evq := rfl
@[simp] theorem Session.bufDrop_cmdq (n : Nat) : (c.bufDrop n).cmdq = c.cmdq := rfl
@[simp] theorem Session.bufDrop_rxPhase (n : Nat) : (c.bufDrop n).rxPhase = c.rxPhase := rfl
@[simp] theorem Session.bufDrop_evr (n : Nat) : (c.bufDrop n).evr = c.evr := rfl
@[simp] theorem Session.bufDrop_txPhase (n : Nat) : (c.bufDrop n).txPhase = c.txPhase := rfl
@[simp] theorem Session.bufDrop_txf (n : Nat) : (c.bufDrop n).txf = c.txf := rfl
@[simp] theorem Session.bufDrop_txDeadline (n : Nat) : (c.bufDrop n).txDeadline = c.txDeadline := rfl
@[simp] theorem Session.bufDrop_wireOut (n : Nat) : (c.bufDrop n).wireOut = c.wireOut := rfl
@[simp] theorem Session.bufDrop_diag (n : Nat) : (c.bufDrop n).diag = c.diag := rfl
@[simp] theorem Session.bufDrop_line (n : Nat) : (c.bufDrop n).line = c.line := rfl
@[simp] theorem Session.bufDrop_callers (n : Nat) : (c.bufDrop n).callers = c.callers := rfl
@[simp] theorem Session.bufDrop_stamps (n : Nat) : (c.bufDrop n).stamps = c.stamps := rfl

/-! ### `evqPush` -/

@[simp] theorem Session.evqPush_clientAddr (e : Event) : (c.evqPush e).clientAddr = c.clientAddr := rfl
@[simp] theorem Session.evqPush_writeEn (e : Event) : (c.evqPush e).writeEn = c.writeEn := rfl
@[simp] theorem Session.evqPush_debugSink (e : Event) : (c.evqPush e).debugSink = c.debugSink := rfl
@[simp] theorem Session.evqPush_transport (e : Event) : (c.evqPush e).transport = c.transport := rfl
@[simp] theorem Session.evqPush_running (e : Event) : (c.evqPush e).running = c.running := rfl
@[simp] theorem Session.evqPush_lastActivity (e : Event) : (c.evqPush e).lastActivity = c.lastActivity := rfl
@[simp] theorem Session.evqPush_rxbuf (e : Event) : (c.evqPush e).rxbuf = c.rxbuf := rfl
@[simp] theorem Session.evqPush_evq (e : Event) : (c.evqPush e).evq = c.evq ++ [e] := rfl
@[simp] theorem Session.evqPush_cmdq (e : Event) : (c.evqPush e).cmdq = c.cmdq := rfl
@[simp] theorem Session.evqPush_rxPhase (e : Event) : (c.evqPush e).rxPhase = c.rxPhase := rfl
@[simp] theorem Session.evqPush_evr (e : Event) : (c.evqPush e).evr = c.evr := rfl
@[simp] theorem Session.evqPush_txPhase (e : Event) : (c.evqPush e).txPhase = c.txPhase := rfl
@[simp] theorem Session.evqPush_txf (e : Event) : (c.evqPush e).txf = c.txf := rfl
@[simp] theorem Session.evqPush_txDeadline (e : Event) : (c.evqPush e).txDeadline = c.txDeadline := rfl
@[simp] theorem Session.evqPush_wireOut (e : Event) : (c.evqPush e).wireOut = c.wireOut := rfl
@[simp] theorem Session.evqPush_diag (e : Event) : (c.evqPush e).diag = c.diag := rfl
@[simp] theorem Session.evqPush_line (e : Event) : (c.evqPush e).line = c.line := rfl
@[simp] theorem Session.evqPush_callers (e : Event) : (c.evqPush e).callers = c.callers := rfl
@[simp] theorem Session.evqPush_stamps (e : Event) : (c.evqPush e).stamps = c.stamps := rfl

/-! ### `cmdqPush` -/

@[simp] theorem Session.cmdqPush_clientAddr (f : Frame) : (c.cmdqPush f).clientAddr = c.clientAddr := rfl
@[simp] theorem Session.cmdqPush_writeEn (f : Frame) : (c.cmdqPush f).writeEn = c.writeEn := rfl
@[simp] theorem Session.cmdqPush_debugSink (f : Frame) : (c.cmdqPush f).debugSink = c.debugSink := rfl
@[simp] theorem Session.cmdqPush_transport (f : Frame) : (c.cmdqPush f).transport = c.transport := rfl
@[simp] theorem Session.cmdqPush_running (f : Frame) : (c.cmdqPush f).running = c.running := rfl
@[simp] theorem Session.cmdqPush_lastActivity (f : Frame) : (c.cmdqPush f).lastActivity = c.lastActivity := rfl
@[simp] theorem Session.cmdqPush_rxbuf (f : Frame) : (c.cmdqPush f).rxbuf = c.rxbuf := rfl
@[simp] theorem Session.cmdqPush_evq (f : Frame) : (c.cmdqPush f).evq = c.evq := rfl
@[simp] theorem Session.cmdqPush_cmdq (f : Frame) : (c.cmdqPush f).cmdq = c.cmdq ++ [f] := rfl
@[simp] theorem Session.cmdqPush_rxPhase (f : Frame) : (c.cmdqPush f).rxPhase = c.rxPhase := rfl
@[simp] theorem Session.cmdqPush_evr (f : Frame) : (c.cmdqPush f).evr = c.evr := rfl
@[simp] theorem Session.cmdqPush_txPhase (f : Frame) : (c.cmdqPush f).txPhase = c.txPhase := rfl
@[simp] theorem Session.cmdqPush_txf (f : Frame) : (c.cmdqPush f).txf = c.txf := rfl
@[simp] theorem Session.cmdqPush_txDeadline (f : Frame) : (c.cmdqPush f).txDeadline = c.txDeadline := rfl
@[simp] theorem Session.cmdqPush_wireOut (f : Frame) : (c.cmdqPush f).wireOut = c.wireOut := rfl
@[simp] theorem Session.cmdqPush_diag (f : Frame) : (c.cmdqPush f).diag = c.diag := rfl
@[simp] theorem Session.cmdqPush_line (f : Frame) : (c.cmdqPush f).line = c.line := rfl
@[simp] theorem Session.cmdqPush_callers (f : Frame) : (c.cmdqPush f).callers = c.callers := rfl
@[simp] theorem Session.cmdqPush_stamps (f : Frame) : (c.cmdqPush f).stamps = c.stamps := rfl

/-! ### `touch` -/

@[simp] theorem Session.touch_clientAddr (t : Nat) : (c.touch t).clientAddr = c.clientAddr := rfl
@[simp] theorem Session.touch_writeEn (t : Nat) : (c.touch t).writeEn = c.writeEn := rfl
@[simp] theorem Session.touch_debugSink (t : Nat) : (c.touch t).debugSink = c.debugSink := rfl
@[simp] theorem Session.touch_transport (t : Nat) : (c.touch t).transport = c.transport := rfl
@[simp] theorem Session.touch_running (t : Nat) : (c.touch t).running = c.running := rfl
@[simp] theorem Session.touch_lastActivity (t : Nat) : (c.touch t).lastActivity = t := rfl
@[simp] theorem Session.touch_rxbuf (t : Nat) : (c.touch t).rxbuf = c.rxbuf := rfl
@[simp] theorem Session.touch_evq (t : Nat) : (c.touch t).evq = c.evq := rfl
@[simp] theorem Session.touch_cmdq (t : Nat) : (c.touch t).cmdq = c.cmdq := rfl
@[simp] theorem Session.touch_rxPhase (t : Nat) : (c.touch t).rxPhase = c.rxPhase := rfl
@[simp] theorem Session.touch_evr (t : Nat) : (c.touch t).evr = c.evr := rfl
@[simp] theorem Session.touch_txPhase (t : Nat) : (c.touch t).txPhase = c.txPhase := rfl
@[simp] theorem Session.touch_txf (t : Nat) : (c.touch t).txf = c.txf := rfl
@[simp] theorem Session.touch_txDeadline (t : Nat) : (c.touch t).txDeadline = c.txDeadline := rfl
@[simp] theorem Session.touch_wireOut (t : Nat) : (c.touch t).wireOut = c.wireOut := rfl
@[simp] theorem Session.touch_diag (t : Nat) : (c.touch t).diag = c.diag := rfl
@[simp] theorem Session.touch_line (t : Nat) : (c.touch t).line = c.line := rfl
@[simp] theorem Session.touch_callers (t : Nat) : (c.touch t).callers = c.callers := rfl
@[simp] theorem Session.touch_stamps (t : Nat) : (c.touch t).stamps = c.stamps := rfl

/-! ### `toRx` -/

@[simp] theorem Session.toRx_clientAddr (p : RxPhase) : (c.toRx p).clientAddr = c.clientAddr := rfl
@[simp] theorem Session.toRx_writeEn (p : RxPhase) : (c.toRx p).writeEn = c.writeEn := rfl
@[simp] theorem Session.toRx_debugSink (p : RxPhase) : (c.toRx p).debugSink = c.debugSink := rfl
@[simp] theorem Session.toRx_transport (p : RxPhase) : (c.toRx p).transport = c.transport := rfl
@[simp] theorem Session.toRx_running (p : RxPhase) : (c.toRx p).running = c.running := rfl
@[simp] theorem Session.toRx_lastActivity (p : RxPhase) : (c.toRx p).lastActivity = c.lastActivity := rfl
@[simp] theorem Session.toRx_rxbuf (p : RxPhase) : (c.toRx p).rxbuf = c.rxbuf := rfl
@[simp] theorem Session.toRx_evq (p : RxPhase) : (c.toRx p).evq = c.evq := rfl
@[simp] theorem Session.toRx_cmdq (p : RxPhase) : (c.toRx p).cmdq = c.cmdq := rfl
@[simp] theorem Session.toRx_rxPhase (p : RxPhase) : (c.toRx p).rxPhase = p := rfl
@[simp] theorem Session.toRx_evr (p : RxPhase) : (c.toRx p).evr = c.evr := rfl
@[simp] theorem Session.toRx_txPhase (p : RxPhase) : (c.toRx p).txPhase = c.txPhase := rfl
@[simp] theorem Session.toRx_txf (p : RxPhase) : (c.toRx p).txf = c.txf := rfl
@[simp] theorem Session.toRx_txDeadline (p : RxPhase) : (c.toRx p).txDeadline = c.txDeadline := rfl
@[simp] theorem Session.toRx_wireOut (p : RxPhase) : (c.toRx p).wireOut = c.wireOut := rfl
@[simp] theorem Session.toRx_diag (p : RxPhase) : (c.toRx p).diag = c.diag := rfl
@[simp] theorem Session.toRx_line (p : RxPhase) : (c.toRx p).line = c.line := rfl
@[simp] theorem Session.toRx_callers (p : RxPhase) : (c.toRx p).callers = c.callers := rfl
@[simp] theorem Session.toRx_stamps (p : RxPhase) : (c.toRx p).stamps = c.stamps := rfl

/-! ### `toTx` -/

@[simp] theorem Session.toTx_clientAddr (p : TxPhase) : (c.toTx p).clientAddr = c.clientAddr := rfl
@[simp] theorem Session.toTx_writeEn (p : TxPhase) : (c.toTx p).writeEn = c.writeEn := rfl
@[simp] theorem Session.toTx_debugSink (p : TxPhase) : (c.toTx p).debugSink = c.debugSink := rfl
@[simp] theorem Session.toTx_transport (p : TxPhase) : (c.toTx p).transport = c.transport := rfl
@[simp] theorem Session.toTx_running (p : TxPhase) : (c.toTx p).running = c.running := rfl
@[simp] theorem Session.toTx_lastActivity (p : TxPhase) : (c.toTx p).lastActivity = c.lastActivity := rfl
@[simp] theorem Session.toTx_rxbuf (p : TxPhase) : (c.toTx p).rxbuf = c.rxbuf := rfl
@[simp] theorem Session.toTx_evq (p : TxPhase) : (c.toTx p).evq = c.evq := rfl
@[simp] theorem Session.toTx_cmdq (p : TxPhase) : (c.toTx p).cmdq = c.cmdq := rfl
@[simp] theorem Session.toTx_rxPhase (p : TxPhase) : (c.toTx p).rxPhase = c.rxPhase := rfl
@[simp] theorem Session.toTx_evr (p : TxPhase) : (c.toTx p).evr = c.evr := rfl
@[simp] theorem Session.toTx_txPhase (p : TxPhase) : (c.toTx p).txPhase = p := rfl
@[simp] theorem Session.toTx_txf (p : TxPhase) : (c.toTx p).txf = c.txf := rfl
@[simp] theorem Session.toTx_txDeadline (p : TxPhase) : (c.toTx p).txDeadline = c.txDeadline := rfl
@[simp] theorem Session.toTx_wireOut (p : TxPhase) : (c.toTx p).wireOut = c.wireOut := rfl
@[simp] theorem Session.toTx_diag (p : TxPhase) : (c.toTx p).diag = c.diag := rfl
@[simp] theorem Session.toTx_line (p : TxPhase) : (c.toTx p).line = c.line := rfl
@[simp] theorem Session.toTx_callers (p : TxPhase) : (c.toTx p).callers = c.callers := rfl
@[simp] theorem Session.toTx_stamps (p : TxPhase) : (c.toTx p).stamps = c.stamps := rfl

/-! ### `setEvr` -/

@[simp] theorem Session.setEvr_clientAddr (e : Event) : (c.setEvr e).clientAddr = c.clientAddr := rfl
@[simp] theorem Session.setEvr_writeEn (e : Event) : (c.setEvr e).writeEn = c.writeEn := rfl
@[simp] theorem Session.setEvr_debugSink (e : Event) : (c.setEvr e).debugSink = c.debugSink := rfl
@[simp] theorem Session.setEvr_transport (e : Event) : (c.setEvr e).transport = c.transport := rfl
@[simp] theorem Session.setEvr_running (e : Event) : (c.setEvr e).running = c.running := rfl
@[simp] theorem Session.setEvr_lastActivity (e : Event) : (c.setEvr e).lastActivity = c.lastActivity := rfl
@[simp] theorem Session.setEvr_rxbuf (e : Event) : (c.setEvr e).rxbuf = c.rxbuf := rfl
@[simp] theorem Session.setEvr_evq (e : Event) : (c.setEvr e).evq = c.evq := rfl
@[simp] theorem Session.setEvr_cmdq (e : Event) : (c.setEvr e).cmdq = c.cmdq := rfl
@[simp] theorem Session.setEvr_rxPhase (e : Event) : (c.setEvr e).rxPhase = c.rxPhase := rfl
@[simp] theorem Session.setEvr_evr (e : Event) : (c.setEvr e).evr = e := rfl
@[simp] theorem Session.setEvr_txPhase (e : Event) : (c.setEvr e).txPhase = c.txPhase := rfl
@[simp] theorem Session.setEvr_txf (e : Event) : (c.setEvr e).txf = c.txf := rfl
@[simp] theorem Session.setEvr_txDeadline (e : Event) : (c.setEvr e).txDeadline = c.txDeadline := rfl
@[simp] theorem Session.setEvr_wireOut (e : Event) : (c.setEvr e).wireOut = c.wireOut := rfl
@[simp] theorem Session.setEvr_diag (e : Event) : (c.setEvr e).diag = c.diag := rfl
@[simp] theorem Session.setEvr_line (e : Event) : (c.setEvr e).line = c.line := rfl
@[simp] theorem Session.setEvr_callers (e : Event) : (c.setEvr e).callers = c.callers := rfl
@[simp] theorem Session.setEvr_stamps (e : Event) : (c.setEvr e).stamps = c.stamps := rfl

/-! ### `setDeadline` -/

@[simp] theorem Session.setDeadline_clientAddr (t : Nat) : (c.setDeadline t).clientAddr = c.clientAddr := rfl
@[simp] theorem Session.setDeadline_writeEn (t : Nat) : (c.setDeadline t).writeEn = c.writeEn := rfl
@[simp] theorem Session.setDeadline_debugSink (t : Nat) : (c.setDeadline t).debugSink = c.debugSink := rfl
@[simp] theorem Session.setDeadline_transport (t : Nat) : (c.setDeadline t).transport = c.transport := rfl
@[simp] theorem Session.setDeadline_running (t : Nat) : (c.setDeadline t).running = c.running := rfl
@[simp] theorem Session.setDeadline_lastActivity (t : Nat) : (c.setDeadline t).lastActivity = c.lastActivity := rfl
@[simp] theorem Session.setDeadline_rxbuf (t : Nat) : (c.setDeadline t).rxbuf = c.rxbuf := rfl
@[simp] theorem Session.setDeadline_evq (t : Nat) : (c.setDeadline t).evq = c.evq := rfl
@[simp] theorem Session.setDeadline_cmdq (t : Nat) : (c.setDeadline t).cmdq = c.cmdq := rfl
@[simp] theorem Session.setDeadline_rxPhase (t : Nat) : (c.setDeadline t).rxPhase = c.rxPhase := rfl
@[simp] theorem Session.setDeadline_evr (t : Nat) : (c.setDeadline t).evr = c.evr := rfl
@[simp] theorem Session.setDeadline_txPhase (t : Nat) : (c.setDeadline t).txPhase = c.txPhase := rfl
@[simp] theorem Session.setDeadline_txf (t : Nat) : (c.setDeadline t).txf = c.txf := rfl
@[simp] theorem Session.setDeadline_txDeadline (t : Nat) : (c.setDeadline t).txDeadline = t := rfl
@[simp] theorem Session.setDeadline_wireOut (t : Nat) : (c.setDeadline t).wireOut = c.wireOut := rfl
@[simp] theorem Session.setDeadline_diag (t : Nat) : (c.setDeadline t).diag = c.diag := rfl
@[simp] theorem Session.setDeadline_line (t : Nat) : (c.setDeadline t).line = c.line := rfl
@[simp] theorem Session.setDeadline_callers (t : Nat) : (c.setDeadline t).callers = c.callers := rfl
@[simp] theorem Session.setDeadline_stamps (t : Nat) : (c.setDeadline t).stamps = c.stamps := rfl

/-! ### `recordStamp` -/

@[simp] theorem Session.recordStamp_clientAddr (t : Nat) : (c.recordStamp t).clientAddr = c.clientAddr := rfl
@[simp] theorem Session.recordStamp_writeEn (t : Nat) : (c.recordStamp t).writeEn = c.writeEn := rfl
@[simp] theorem Session.recordStamp_debugSink (t : Nat) : (c.recordStamp t).debugSink = c.debugSink := rfl
@[simp] theorem Session.recordStamp_transport (t : Nat) : (c.recordStamp t).transport = c.transport := rfl
@[simp] theorem Session.recordStamp_running (t : Nat) : (c.recordStamp t).running = c.running := rfl
@[simp] theorem Session.recordStamp_lastActivity (t : Nat) : (c.recordStamp t).lastActivity = c.lastActivity := rfl
@[simp] theorem Session.recordStamp_rxbuf (t : Nat) : (c.recordStamp t).rxbuf = c.rxbuf := rfl
@[simp] theorem Session.recordStamp_evq (t : Nat) : (c.recordStamp t).evq = c.evq := rfl
@[simp] theorem Session.recordStamp_cmdq (t : Nat) : (c.recordStamp t).cmdq = c.cmdq := rfl
@[simp] theorem Session.recordStamp_rxPhase (t : Nat) : (c.recordStamp t).rxPhase = c.rxPhase := rfl
@[simp] theorem Session.recordStamp_evr (t : Nat) : (c.recordStamp t).evr = c.evr := rfl
@[simp] theorem Session.recordStamp_txPhase (t : Nat) : (c.recordStamp t).txPhase = c.txPhase := rfl
@[simp] theorem Session.recordStamp_txf (t : Nat) : (c.recordStamp t).txf = c.txf := rfl
@[simp] theorem Session.recordStamp_txDeadline (t : Nat) : (c.recordStamp t).txDeadline = c.txDeadline := rfl
@[simp] theorem Session.recordStamp_wireOut (t : Nat) : (c.recordStamp t).wireOut = c.wireOut := rfl
@[simp] theorem Session.recordStamp_diag (t : Nat) : (c.recordStamp t).diag = c.diag := rfl
@[simp] theorem Session.recordStamp_line (t : Nat) : (c.recordStamp t).line = c.line := rfl
@[simp] theorem Session.recordStamp_callers (t : Nat) : (c.recordStamp t).callers = c.callers := rfl
@[simp] theorem Session.recordStamp_stamps (t : Nat) : (c.recordStamp t).stamps = c.stamps ++ [t] := rfl

/-! ### `lineWrite` -/

@[simp] theorem Session.lineWrite_clientAddr (t : Nat) : (c.lineWrite t).clientAddr = c.clientAddr := rfl
@[simp] theorem Session.lineWrite_writeEn (t : Nat) : (c.lineWrite t).writeEn = c.writeEn := rfl
@[simp] theorem Session.lineWrite_debugSink (t : Nat) : (c.lineWrite t).debugSink = c.debugSink := rfl
@[simp] theorem Session.lineWrite_transport (t : Nat) : (c.lineWrite t).transport = c.transport := rfl
@[simp] theorem Session.lineWrite_running (t : Nat) : (c.lineWrite t).running = c.running := rfl
@[simp] theorem Session.lineWrite_lastActivity (t : Nat) : (c.lineWrite t).lastActivity = c.lastActivity := rfl
@[simp] theorem Session.lineWrite_rxbuf (t : Nat) : (c.lineWrite t).rxbuf = c.rxbuf := rfl
@[simp] theorem Session.lineWrite_evq (t : Nat) : (c.lineWrite t).evq = c.evq := rfl
@[simp] theorem Session.lineWrite_cmdq (t : Nat) : (c.lineWrite t).cmdq = c.cmdq := rfl
@[simp] theorem Session.lineWrite_rxPhase (t : Nat) : (c.lineWrite t).rxPhase = c.rxPhase := rfl
@[simp] theorem Session.lineWrite_evr (t : Nat) : (c.lineWrite t).evr = c.evr := rfl
@[simp] theorem Session.lineWrite_txPhase (t : Nat) : (c.lineWrite t).txPhase = c.txPhase := rfl
@[simp] theorem Session.lineWrite_txf (t : Nat) : (c.lineWrite t).txf = c.txf := rfl
@[simp] theorem Session.lineWrite_txDeadline (t : Nat) : (c.lineWrite t).txDeadline = c.txDeadline := rfl
@[simp] theorem Session.lineWrite_wireOut (t : Nat) : (c.lineWrite t).wireOut = c.wireOut ++ [(t, c.txf)] := rfl
@[simp] theorem Session.lineWrite_diag (t : Nat) : (c.lineWrite t).diag = c.diag := rfl
@[simp] theorem Session.lineWrite_line (t : Nat) : (c.lineWrite t).line = c.line := rfl
@[simp] theorem Session.lineWrite_callers (t : Nat) : (c.lineWrite t).callers = c.callers := rfl
@[simp] theorem Session.lineWrite_stamps (t : Nat) : (c.lineWrite t).stamps = c.stamps := rfl

/-! ### `setLine` -/

@[simp] theorem Session.setLine_clientAddr (l : List Offer) : (c.setLine l).clientAddr = c.clientAddr := rfl
@[simp] theorem Session.setLine_writeEn (l : List Offer) : (c.setLine l).writeEn = c.writeEn := rfl
@[simp] theorem Session.setLine_debugSink (l : List Offer) : (c.setLine l).debugSink = c.debugSink := rfl
@[simp] theorem Session.setLine_transport (l : List Offer) : (c.setLine l).transport = c.transport := rfl
@[simp] theorem Session.setLine_running (l : List Offer) : (c.setLine l).running = c.running := rfl
@[simp] theorem Session.setLine_lastActivity (l : List Offer) : (c.setLine l).lastActivity = c.lastActivity := rfl
@[simp] theorem Session.setLine_rxbuf (l : List Offer) : (c.setLine l).rxbuf = c.rxbuf := rfl
@[simp] theorem Session.setLine_evq (l : List Offer) : (c.setLine l).evq = c.evq := rfl
@[simp] theorem Session.setLine_cmdq (l : List Offer) : (c.setLine l).cmdq = c.cmdq := rfl
@[simp] theorem Session.setLine_rxPhase (l : List Offer) : (c.setLine l).rxPhase = c.rxPhase := rfl
@[simp] theorem Session.setLine_evr (l : List Offer) : (c.setLine l).evr = c.evr := rfl
@[simp] theorem Session.setLine_txPhase (l : List Offer) : (c.setLine l).txPhase = c.txPhase := rfl
@[simp] theorem Session.setLine_txf (l : List Offer) : (c.setLine l).txf = c.txf := rfl
@[simp] theorem Session.setLine_txDeadline (l : List Offer) : (c.setLine l).txDeadline = c.txDeadline := rfl
@[simp] theorem Session.setLine_wireOut (l : List Offer) : (c.setLine l).wireOut = c.wireOut := rfl
@[simp] theorem Session.setLine_diag (l : List Offer) : (c.setLine l).diag = c.diag := rfl
@[simp] theorem Session.setLine_line (l : List Offer) : (c.setLine l).line = l := rfl
@[simp] theorem Session.setLine_callers (l : List Offer) : (c.setLine l).callers = c.callers := rfl
@[simp] theorem Session.setLine_stamps (l : List Offer) : (c.setLine l).stamps = c.stamps := rfl

/-! ### `takeFrame` -/

@[simp] theorem Session.takeFrame_clientAddr (f : Frame) (rest : List Frame) :
    (c.takeFrame f rest).clientAddr = c.clientAddr := rfl
@[simp] theorem Session.takeFrame_writeEn (f : Frame) (rest : List Frame) :
    (c.takeFrame f rest).writeEn = c.writeEn := rfl
@[simp] theorem Session.takeFrame_debugSink (f : Frame) (rest : List Frame) :
    (c.takeFrame f rest).debugSink = c.debugSink := rfl
@[simp] theorem Session.takeFrame_transport (f : Frame) (rest : List Frame) :
    (c.takeFrame f rest).transport = c.transport := rfl
@[simp] theorem Session.takeFrame_running (f : Frame) (rest : List Frame) :
    (c.takeFrame f rest).running = c.running := rfl
@[simp] theorem Session.takeFrame_lastActivity (f : Frame) (rest : List Frame) :
    (c.takeFrame f rest).lastActivity = c.lastActivity := rfl
@[simp] theorem Session.takeFrame_rxbuf (f : Frame) (rest : List Frame) : (c.takeFrame f rest).rxbuf = c.rxbuf := rfl
@[simp] theorem Session.takeFrame_evq (f : Frame) (rest : List Frame) : (c.takeFrame f rest).evq = c.evq := rfl
@[simp] theorem Session.takeFrame_cmdq (f : Frame) (rest : List Frame) : (c.takeFrame f rest).cmdq = rest := rfl
@[simp] theorem Session.takeFrame_rxPhase (f : Frame) (rest : List Frame) :
    (c.takeFrame f rest).rxPhase = c.rxPhase := rfl
@[simp] theorem Session.takeFrame_evr (f : Frame) (rest : List Frame) : (c.takeFrame f rest).evr = c.evr := rfl
@[simp] theorem Session.takeFrame_txPhase (f : Frame) (rest : List Frame) :
    (c.takeFrame f rest).txPhase = c.txPhase := rfl
@[simp] theorem Session.takeFrame_txf (f : Frame) (rest : List Frame) : (c.takeFrame f rest).txf = f := rfl
@[simp] theorem Session.takeFrame_txDeadline (f : Frame) (rest : List Frame) :
    (c.takeFrame f rest).txDeadline = c.txDeadline := rfl
@[simp] theorem Session.takeFrame_wireOut (f : Frame) (rest : List Frame) :
    (c.takeFrame f rest).wireOut = c.wireOut := rfl
@[simp] theorem Session.takeFrame_diag (f : Frame) (rest : List Frame) : (c.takeFrame f rest).diag = c.diag := rfl
@[simp] theorem Session.takeFrame_line (f : Frame) (rest : List Frame) : (c.takeFrame f rest).line = c.line := rfl
@[simp] theorem Session.takeFrame_callers (f : Frame) (rest : List Frame) :
    (c.takeFrame f rest).callers = c.callers := rfl
@[simp] theorem Session.takeFrame_stamps (f : Frame) (rest : List Frame) :
    (c.takeFrame f rest).stamps = c.stamps := rfl

/-! ### `raise` -/

@[simp] theorem Session.raise_invalidAddress (a : Byte) : c.raise (.invalidAddress a) = c := rfl
@[simp] theorem Session.raise_checksumMismatch (w : Frame) : c.raise (.checksumMismatch w) = c := rfl
@[simp] theorem Session.raise_clientAddr (e : CoreError) : (c.raise e).clientAddr = c.clientAddr := by cases e <;> rfl
@[simp] theorem Session.raise_writeEn (e : CoreError) : (c.raise e).writeEn = c.writeEn := by cases e <;> rfl
@[simp] theorem Session.raise_debugSink (e : CoreError) : (c.raise e).debugSink = c.debugSink := by cases e <;> rfl
@[simp] theorem Session.raise_transport (e : CoreError) : (c.raise e).transport = c.transport := by cases e <;> rfl
@[simp] theorem Session.raise_lastActivity (e : CoreError) : (c.raise e).lastActivity = c.lastActivity := by cases e <;> rfl
@[simp] theorem Session.raise_rxbuf (e : CoreError) : (c.raise e).rxbuf = c.rxbuf := by cases e <;> rfl
@[simp] theorem Session.raise_evq (e : CoreError) : (c.raise e).evq = c.evq := by cases e <;> rfl
@[simp] theorem Session.raise_cmdq (e : CoreError) : (c.raise e).cmdq = c.cmdq := by cases e <;> rfl
@[simp] theorem Session.raise_evr (e : CoreError) : (c.raise e).evr = c.evr := by cases e <;> rfl
@[simp] theorem Session.raise_txf (e : CoreError) : (c.raise e).txf = c.txf := by cases e <;> rfl
@[simp] theorem Session.raise_txDeadline (e : CoreError) : (c.raise e).txDeadline = c.txDeadline := by cases e <;> rfl
@[simp] theorem Session.raise_wireOut (e : CoreError) : (c.raise e).wireOut = c.wireOut := by cases e <;> rfl
@[simp] theorem Session.raise_line (e : CoreError) : (c.raise e).line = c.line := by cases e <;> rfl
@[simp] theorem Session.raise_callers (e : CoreError) : (c.raise e).callers = c.callers := by cases e <;> rfl
@[simp] theorem Session.raise_stamps (e : CoreError) : (c.raise e).stamps = c.stamps := by cases e <;> rfl
@[simp] theorem Session.raise_transportReadFailure_running : (c.raise .transportReadFailure).running = false := rfl
@[simp] theorem Session.raise_transportReadFailure_rxPhase : (c.raise .transportReadFailure).rxPhase = .rxHalt := rfl
@[simp] theorem Session.raise_transportReadFailure_diag : (c.raise .transportReadFailure).diag = c.diag := rfl
@[simp] theorem Session.raise_transportReadFailure_txPhase :
    (c.raise .transportReadFailure).txPhase = c.txPhase := rfl
@[simp] theorem Session.raise_invalidSpeedLevel_running (n : Int) :
    (c.raise (.invalidSpeedLevel n)).running = c.running := rfl
@[simp] theorem Session.raise_invalidSpeedLevel_rxPhase (n : Int) :
    (c.raise (.invalidSpeedLevel n)).rxPhase = c.rxPhase := rfl
@[simp] theorem Session.raise_invalidSpeedLevel_diag (n : Int) :
    (c.raise (.invalidSpeedLevel n)).diag = c.diag ++ [.invalidSpeedLevel n] := rfl
@[simp] theorem Session.raise_invalidSpeedLevel_txPhase (n : Int) :
    (c.raise (.invalidSpeedLevel n)).txPhase = c.txPhase := rfl
@[simp] theorem Session.raise_writeDenied_running (f : Frame) : (c.raise (.writeDenied f)).running = c.running := rfl
@[simp] theorem Session.raise_writeDenied_rxPhase (f : Frame) : (c.raise (.writeDenied f)).rxPhase = c.rxPhase := rfl
@[simp] theorem Session.raise_writeDenied_diag (f : Frame) :
    (c.raise (.writeDenied f)).diag = c.diag ++ [.writeDenied f] := rfl
@[simp] theorem Session.raise_writeDenied_txPhase (f : Frame) : (c.raise (.writeDenied f)).txPhase = .txTop := rfl

/-! ### The whole state: `onCore` and `give` -/

@[simp] theorem State.onCore_params (f : Session → Session) : (s.onCore f).params = s.params := rfl
@[simp] theorem State.onCore_now (f : Session → Session) : (s.onCore f).now = s.now := rfl
@[simp] theorem State.onCore_core (f : Session → Session) : (s.onCore f).core = f s.core := rfl
@[simp] theorem State.onCore_others (f : Session → Session) : (s.onCore f).others = s.others := rfl
@[simp] theorem State.onCore_openErrors (f : Session → Session) : (s.onCore f).openErrors = s.openErrors := rfl
@[simp] theorem State.onCore_ret (f : Session → Session) : (s.onCore f).ret = s.ret := rfl
@[simp] theorem State.onCore_agenda (f : Session → Session) : (s.onCore f).agenda = s.agenda := rfl
@[simp] theorem State.onCore_turn (f : Session → Session) : (s.onCore f).turn = s.turn := rfl
@[simp] theorem State.give_params (r : Result) : (s.give r).params = s.params := rfl
@[simp] theorem State.give_now (r : Result) : (s.give r).now = s.now := rfl
@[simp] theorem State.give_core (r : Result) : (s.give r).core = s.core := rfl
@[simp] theorem State.give_others (r : Result) : (s.give r).others = s.others := rfl
@[simp] theorem State.give_openErrors (r : Result) : (s.give r).openErrors = s.openErrors := rfl
@[simp] theorem State.give_ret (r : Result) : (s.give r).ret = r := rfl
@[simp] theorem State.give_agenda (r : Result) : (s.give r).agenda = s.agenda := rfl
@[simp] theorem State.give_turn (r : Result) : (s.give r).turn = s.turn := rfl

/-! ### hostCall -/

@[simp] theorem hostCall_params (fs : List Frame) : (hostCall fs s).params = s.params := rfl
@[simp] theorem hostCall_now (fs : List Frame) : (hostCall fs s).now = s.now := rfl
@[simp] theorem hostCall_core (fs : List Frame) : (hostCall fs s).core = s.core.call s.params.cmdqCap fs := rfl
@[simp] theorem hostCall_others (fs : List Frame) : (hostCall fs s).others = s.others := rfl
@[simp] theorem hostCall_openErrors (fs : List Frame) : (hostCall fs s).openErrors = s.openErrors := rfl
@[simp] theorem hostCall_ret (fs : List Frame) : (hostCall fs s).ret = s.ret := rfl
@[simp] theorem hostCall_agenda (fs : List Frame) : (hostCall fs s).agenda = s.agenda := rfl
@[simp] theorem hostCall_turn (fs : List Frame) : (hostCall fs s).turn = s.turn := rfl

end Sys2Proof.Machine
end

