-- ==== Sys2Proof/Laws/Ops.lean ====
section
/-! SUPPORT. One lemma per shared operation, saying everything it can do; later proofs cite these and do not unfold the
operations. -/

namespace Sys2Proof.Machine

/-! ### Codec -/

/-- The checksum byte is the integer sum reduced once mod 256. -/
theorem checksum_toNat (y s d r v : Byte) :
    (checksum y s d r v).toNat = (y.toNat + s.toNat + d.toNat + r.toNat + v.toNat) % 256 := by
  simp [checksum]

/-- Reducing after each addition gives the same byte. -/
theorem checksum_eq_add (y s d r v : Byte) : checksum y s d r v = y + s + d + r + v := by
  apply BitVec.eq_of_toNat_eq
  simp [checksum_toNat, BitVec.toNat_add]

/-- A group of six bytes is valid exactly when its last byte is the checksum of the others. -/
theorem valid_iff (f : Frame) :
    valid f = true ↔ f.checksum = checksum f.system f.source f.destination f.register f.value := by
  simp [valid]

/-- Whatever ENCODE builds is valid. -/
@[simp] theorem valid_encodeFrame (y s d r v : Byte) : valid (encodeFrame y s d r v) = true := by
  simp [valid, encodeFrame]

/-- Whatever BUILD_WRITE builds is valid. -/
@[simp] theorem valid_buildWrite (a d r v : Byte) : valid (buildWrite a d r v) = true := by
  simp [buildWrite]

/-- Whatever BUILD_QUERY builds is valid. -/
@[simp] theorem valid_buildQuery (p : Params) (a r : Byte) : valid (buildQuery p a r) = true := by
  simp [buildQuery]

/-- Every frame of the init burst is valid. -/
theorem valid_of_mem_initQueries {p : Params} {a : Byte} {f : Frame} (h : f ∈ initQueries p a) : valid f = true := by
  obtain ⟨r, -, rfl⟩ := List.mem_map.1 h
  exact valid_buildQuery p a r

/-! ### Window -/

/-- A window stands at the head exactly when the buffer begins with its six bytes. -/
theorem window_eq_some_iff (buf : List Byte) (w : Frame) :
    window buf = some w ↔ buf = frameBytes w ++ buf.drop 6 := by
  rcases buf with _ | ⟨a, _ | ⟨b, _ | ⟨c, _ | ⟨d, _ | ⟨e, _ | ⟨f, rest⟩⟩⟩⟩⟩⟩ <;>
    simp [window, frameBytes]
  constructor
  · rintro rfl; simp
  · rintro ⟨rfl, rfl, rfl, rfl, rfl, rfl⟩; rfl

/-- No window stands at the head exactly when fewer than six bytes are there. -/
theorem window_eq_none_iff (buf : List Byte) : window buf = none ↔ buf.length < 6 := by
  rcases buf with _ | ⟨a, _ | ⟨b, _ | ⟨c, _ | ⟨d, _ | ⟨e, _ | ⟨f, rest⟩⟩⟩⟩⟩⟩ <;> simp [window]

/-- A window needs six bytes. -/
theorem length_of_window {buf : List Byte} {w : Frame} (h : window buf = some w) : 6 ≤ buf.length := by
  rcases Nat.lt_or_ge buf.length 6 with hl | hl
  · rw [(window_eq_none_iff buf).2 hl] at h; cases h
  · exact hl

/-! ### Levels -/

/-- A level in 1..8 has a pattern. -/
theorem speedToValue_ok {n : Int} (h : 1 ≤ n ∧ n ≤ 8) : speedToValue n = .ok (speedRom n.toNat) := by
  simp [speedToValue, h]

/-- Any other level is InvalidSpeedLevel. -/
theorem speedToValue_error {n : Int} (h : ¬(1 ≤ n ∧ n ≤ 8)) : speedToValue n = .error (.invalidSpeedLevel n) := by
  simp [speedToValue, h]

/-- The only error of SPEED_TO_VALUE is InvalidSpeedLevel of its operand. -/
theorem speedToValue_error_eq {n : Int} {e : CoreError} (h : speedToValue n = .error e) : e = .invalidSpeedLevel n := by
  unfold speedToValue at h
  split at h <;> cases h
  rfl

/-! ### Calls -/

/-- What parking a caller does: nothing for one that is done, else one more waiting caller. -/
theorem Session.park_cases (c : Session) (fs : List Frame) :
    (fs = [] ∧ c.park fs = c) ∨ (fs ≠ [] ∧ c.park fs = { c with callers := c.callers ++ [fs] }) := by
  cases fs <;> simp [Session.park]

/-- Everything a call can do: it has no frame; or CMDQ is full and all its frames wait; or its first frame is pushed and
the others wait. -/
theorem Session.call_cases (c : Session) (cap : Nat) (fs : List Frame) :
    (fs = [] ∧ c.call cap fs = c) ∨
    (fs ≠ [] ∧ cap ≤ c.cmdq.length ∧ c.call cap fs = { c with callers := c.callers ++ [fs] }) ∨
    ∃ f rest, fs = f :: rest ∧ c.cmdq.length < cap ∧ c.call cap fs = (c.cmdqPush f).park rest := by
  cases fs with
  | nil => exact .inl ⟨rfl, rfl⟩
  | cons f rest =>
    by_cases h : cap ≤ c.cmdq.length
    · exact .inr (.inl ⟨by simp, h, by simp [Session.call, Session.cmdqFull, h, Session.park]⟩)
    · exact .inr (.inr ⟨f, rest, rfl, by omega, by simp [Session.call, Session.cmdqFull, h]⟩)

/-- Everything a waiting caller's turn can do: nothing, or one push with room for it, after which the caller has one frame
less or is gone. -/
theorem Session.resume_cases (c : Session) (cap k : Nat) :
    c.resume cap k = c ∨
    ∃ f fs, c.callers[k]? = some (f :: fs) ∧ c.cmdq.length < cap ∧
      c.resume cap k = { c with
        cmdq := c.cmdq ++ [f]
        callers := if fs = [] then c.callers.eraseIdx k else c.callers.set k fs } := by
  unfold Session.resume
  split
  · rename_i f fs heq
    by_cases h : cap ≤ c.cmdq.length
    · exact .inl (by simp [Session.cmdqFull, h])
    · exact .inr ⟨f, fs, heq, by omega, by simp [Session.cmdqFull, h, Session.cmdqPush]⟩
  · exact .inl rfl

/-- What a run of pushes does: the frames that fit enter CMDQ in order, the others are handed back, and no other cell
changes. -/
theorem Session.pushAll_eq (cap : Nat) (fs : List Frame) (c : Session) :
    c.pushAll cap fs
      = ({ c with cmdq := c.cmdq ++ fs.take (cap - c.cmdq.length) }, fs.drop (cap - c.cmdq.length)) := by
  induction fs generalizing c with
  | nil => simp [Session.pushAll]
  | cons f fs ih =>
    by_cases h : cap ≤ c.cmdq.length
    · simp [Session.pushAll, Session.cmdqFull, h, Nat.sub_eq_zero_of_le h]
    · obtain ⟨m, hm⟩ : ∃ m, cap - c.cmdq.length = m + 1 := ⟨cap - c.cmdq.length - 1, by omega⟩
      have hm' : cap - (c.cmdq.length + 1) = m := by omega
      simp [Session.pushAll, Session.cmdqFull, h, ih, hm, hm', Session.cmdqPush]

/-- What a call does to CMDQ and to the waiting callers: some first frames of it are pushed, the others wait. -/
theorem Session.call_split (c : Session) (cap : Nat) (fs : List Frame) :
    ∃ pushed waiting, fs = pushed ++ waiting ∧
      (c.call cap fs = { c with cmdq := c.cmdq ++ pushed } ∨
        c.call cap fs = { c with cmdq := c.cmdq ++ pushed, callers := c.callers ++ [waiting] }) := by
  rcases Session.call_cases c cap fs with ⟨rfl, e⟩ | ⟨-, -, e⟩ | ⟨f, rest, rfl, -, e⟩ <;> rw [e]
  · exact ⟨[], [], rfl, .inl (by simp)⟩
  · exact ⟨[], fs, rfl, .inr (by simp)⟩
  · refine ⟨[f], rest, rfl, ?_⟩
    rcases Session.park_cases (c.cmdqPush f) rest with ⟨-, e⟩ | ⟨-, e⟩ <;> rw [e]
    · exact .inl rfl
    · exact .inr rfl

/-! ### Transport reads -/

/-- Everything a read can return: the failure at the head, or a chunk that is the start of the one at the head. -/
theorem nextRead_cases {m : Option Nat} {line rest : List Offer} {o : Offer} (h : nextRead m line = some (o, rest)) :
    (o = .fail ∧ line = .fail :: rest) ∨
    (∃ bytes, o = .ok bytes ∧ line = .ok bytes :: rest ∧ ∀ k, m = some k → bytes.length ≤ k) ∨
    ∃ bytes k tail, m = some k ∧ k < bytes.length ∧ o = .ok (bytes.take k) ∧ line = .ok bytes :: tail ∧
      rest = .ok (bytes.drop k) :: tail := by
  rcases line with _ | ⟨_ | _, tail⟩
  · simp [nextRead] at h
  · rename_i bytes
    rcases m with _ | k
    · simp [nextRead] at h
      obtain ⟨rfl, rfl⟩ := h
      exact .inr (.inl ⟨bytes, rfl, rfl, by simp⟩)
    · by_cases hk : bytes.length ≤ k
      · simp [nextRead, hk] at h
        obtain ⟨rfl, rfl⟩ := h
        exact .inr (.inl ⟨bytes, rfl, rfl, by rintro _ ⟨⟩; exact hk⟩)
      · have hmin : min k bytes.length = k := by omega
        have hne : ¬k = bytes.length := by omega
        simp [nextRead, hmin, hne] at h
        obtain ⟨rfl, rfl⟩ := h
        exact .inr (.inr ⟨bytes, k, tail, rfl, by omega, rfl, rfl, rfl⟩)
  · simp [nextRead] at h
    obtain ⟨rfl, rfl⟩ := h
    exact .inl ⟨rfl, rfl⟩

/-! ### Guarded steps -/

/-- Everything a guarded step can do: it fires, or it leaves the state. -/
theorem fire_cases {s t : State} {g : Bool} {f : Session → Session} (h : fire s g f = .next t) :
    (g = true ∧ t = s.onCore f) ∨ (g = false ∧ t = s) := by
  unfold fire at h
  cases g <;> simp at h
  · exact .inr ⟨rfl, h.symm⟩
  · exact .inl ⟨rfl, h.symm⟩

/-- A guarded step always has a next state. -/
theorem fire_completes (s : State) (g : Bool) (f : Session → Session) : ∃ t, fire s g f = .next t := by
  unfold fire
  split <;> exact ⟨_, rfl⟩

end Sys2Proof.Machine
end

