-- ==== Sys2Proof/Laws/Exec.lean ====
section
/-! SUPPORT. What an operation and a step can do, said once: every invariant is then a case analysis over
`CoreChange` and `step_cases`, and no proof unfolds `exec` or `step` again. -/

namespace Sys2Proof.Machine

/-- Everything that one turn, other than an OPEN or a change of session, can do to the current session. -/
inductive CoreChange (p : Params) (now : Nat) (c : Session) : Session → Prop
  | same : CoreChange p now c c
  | rxTop (h : c.rxPhase = .rxTop) : CoreChange p now c (c.toRx (if c.running then .rxRead else .rxHalt))
  | rxReadOk (bytes : List Byte) (rest : List Offer) (h : c.rxPhase = .rxRead)
      (hr : nextRead p.rxChunkMax c.line = some (.ok bytes, rest)) :
      CoreChange p now c
        ((((c.setLine rest).touch now).bufAppend bytes).toRx (if bytes.isEmpty then .rxTop else .rxScan))
  | rxReadFail (rest : List Offer) (h : c.rxPhase = .rxRead)
      (hr : nextRead p.rxChunkMax c.line = some (.fail, rest)) :
      CoreChange p now c ((c.setLine []).raise .transportReadFailure)
  | rxAccept (w : Frame) (h : c.rxPhase = .rxScan) (hw : window c.rxbuf = some w) (hv : valid w = true) :
      CoreChange p now c (((c.setEvr (mkEvent p now w)).bufDrop 6).toRx .rxEnq)
  | rxSlip (w : Frame) (h : c.rxPhase = .rxScan) (hw : window c.rxbuf = some w) (hv : valid w = false) :
      CoreChange p now c ((c.bufDrop 1).toRx .rxScan)
  | rxScanEnd (h : c.rxPhase = .rxScan) (hl : c.rxbuf.length < 6) : CoreChange p now c (c.toRx .rxTop)
  | rxEnq (h : c.rxPhase = .rxEnq) (hl : c.evq.length < Config.evqCap) :
      CoreChange p now c ((c.evqPush c.evr).toRx .rxScan)
  | txTop (h : c.txPhase = .txTop) : CoreChange p now c (c.toTx (if c.running then .txDeq else .txHalt))
  | txDeq (f : Frame) (rest : List Frame) (h : c.txPhase = .txDeq) (hq : c.cmdq = f :: rest) :
      CoreChange p now c ((c.takeFrame f rest).toTx .txGate)
  | txGatePass (h : c.txPhase = .txGate) (ha : isWriteAllowed p c.writeEn c.txf.register = true) :
      CoreChange p now c (c.toTx .txGap)
  | txGateDeny (h : c.txPhase = .txGate) (ha : isWriteAllowed p c.writeEn c.txf.register = false) :
      CoreChange p now c (c.raise (.writeDenied c.txf))
  | txGapchk (h : c.txPhase = .txGap) :
      CoreChange p now c
        ((c.setDeadline (if c.gapOpen now then now else c.lastActivity + Config.gap)).toTx .txWait)
  | txStamp (h : c.txPhase = .txWait) (hd : c.txDeadline ≤ now) :
      CoreChange p now c (((c.touch now).recordStamp now).toTx .txWrite)
  | txWrite (h : c.txPhase = .txWrite) : CoreChange p now c ((c.lineWrite now).toTx .txTop)
  | badLevel (n : Int) : CoreChange p now c (c.raise (.invalidSpeedLevel n))
  | call (frames : List Frame) (hv : ∀ f ∈ frames, valid f = true) : CoreChange p now c (c.call p.cmdqCap frames)
  | resume (k : Nat) : CoreChange p now c (c.resume p.cmdqCap k)
  | evPop (e : Event) (rest : List Event) (hq : c.evq = e :: rest) : CoreChange p now c { c with evq := rest }
  | line (l : List Offer) : CoreChange p now c (c.setLine l)

/-- The speed commands: a bad level is recorded, a good one is a call of two built frames. -/
theorem speedCommand_change {reg : Byte} {n : Int} {s t : State} (h : speedCommand reg n s = .next t) :
    CoreChange s.params s.now s.core t.core ∧ t = { s with core := t.core } := by
  unfold speedCommand at h
  split at h <;> cases h
  · rename_i v _
    exact ⟨.call (speedFrames s.params s.core.clientAddr reg v) (by simp [speedFrames]), rfl⟩
  · rename_i he
    rw [speedToValue_error_eq he]
    exact ⟨.badLevel n, rfl⟩

/-- A guarded step that changes the session as `CoreChange` allows where its guard holds. -/
theorem fire_change {s t : State} {g : Bool} {f : Session → Session} (h : fire s g f = .next t)
    (hc : g = true → CoreChange s.params s.now s.core (f s.core)) :
    CoreChange s.params s.now s.core t.core ∧ t = { s with core := t.core } := by
  rcases fire_cases h with ⟨hg, rfl⟩ | ⟨-, rfl⟩
  · exact ⟨hc hg, rfl⟩
  · exact ⟨.same, rfl⟩

/-- A guarded step under a match on what it needs: either the match gives it nothing and the state stays, or it fires. -/
theorem next_same {s t : State} (h : (Host.Outcome.next s : Host.Outcome State Fault Refusal) = .next t) :
    CoreChange s.params s.now s.core t.core ∧ t = { s with core := t.core } := by
  cases h
  exact ⟨.same, rfl⟩

/-- Everything that OPEN can do: a failed one hands back its error and changes no cell; a successful one makes a session
with the init burst in CMDQ current. -/
theorem execOpenSession_cases {cfg : OpenConfig} {s t : State} (h : execOpenSession cfg s = .next t) :
    (∃ r, t = s.give r) ∨
    (addrInRange (cfgClientAddr cfg) = true ∧ s.params.catalog.length ≤ s.params.cmdqCap ∧
      t = { s with
        core := { configured s cfg with cmdq := initQueries s.params (cfgClientAddr cfg) }
        others := s.core :: s.others
        ret := .session }) := by
  unfold execOpenSession at h
  split at h
  · rename_i ha
    split at h
    · cases h; exact .inl ⟨_, rfl⟩
    · split at h
      · cases h
      · split at h
        · rename_i c hc
          rw [Session.sendInit, Session.pushAll_eq] at hc
          obtain ⟨rfl, hd⟩ := Prod.mk.inj hc
          cases h
          have hl : (initQueries s.params (configured s cfg).clientAddr).length ≤ s.params.cmdqCap := by
            have := List.drop_eq_nil_iff.1 hd
            simpa [configured, newSession] using this
          refine .inr ⟨ha, by simpa [initQueries] using hl, ?_⟩
          have ht := List.take_of_length_le hl
          simp only [configured, newSession, State.give, List.length_nil, Nat.sub_zero, List.nil_append] at ht ⊢
          rw [ht]
        · cases h
  · cases h; exact .inl ⟨_, rfl⟩

/-- Everything that an operation other than OPEN can do: the session changes as `CoreChange` says, a value may be handed
to the caller, and nothing else of the state changes. -/
theorem exec_change {i : Instr} {s t : State} (hi : ∀ cfg, i ≠ .openSession cfg) (h : exec i s = .next t) :
    CoreChange s.params s.now s.core t.core ∧ t = { s with core := t.core, ret := t.ret } := by
  have weaken : ∀ {t : State}, (CoreChange s.params s.now s.core t.core ∧ t = { s with core := t.core }) →
      CoreChange s.params s.now s.core t.core ∧ t = { s with core := t.core, ret := t.ret } := by
    rintro t ⟨hc, ht⟩
    refine ⟨hc, ?_⟩
    generalize t.core = c at ht
    subst ht
    rfl
  cases i with
  | openSession cfg => exact absurd rfl (hi cfg)
  | frameQuery | frameData => cases h; exact ⟨.line _, rfl⟩
  | checksum | encode | valueToSpeed | valueToRh | valueToTemp | valueToDuty | valueRaw | kindOf | translate | mkEvent
  | isWriteAllowed | buildQuery | buildWrite | forMe | status | reservedCmd => cases h; exact ⟨.same, rfl⟩
  | decode b =>
    simp only [exec, execDecode, decodeFrame] at h
    split at h <;> rename_i hd <;> cases h
    · exact ⟨.same, rfl⟩
    · split at hd <;> cases hd
      exact ⟨.same, rfl⟩
  | speedToValue n =>
    simp only [exec, execSpeedToValue] at h
    split at h <;> rename_i hd <;> cases h
    · exact ⟨.same, rfl⟩
    · rw [speedToValue_error_eq hd]
      exact ⟨.badLevel n, rfl⟩
  | rxTop => exact weaken (fire_change h fun hg => .rxTop (by simpa using hg))
  | rxReadOk =>
    simp only [exec, execRxReadOk] at h
    split at h
    · exact weaken (fire_change h fun hg => .rxReadOk _ _ (by simpa using hg) ‹_›)
    · exact weaken (next_same h)
  | rxReadFail =>
    simp only [exec, execRxReadFail] at h
    split at h
    · exact weaken (fire_change h fun hg => .rxReadFail _ (by simpa using hg) ‹_›)
    · exact weaken (next_same h)
  | rxAccept =>
    simp only [exec, execRxAccept] at h
    split at h
    · refine weaken (fire_change h fun hg => ?_)
      simp only [Bool.and_eq_true, beq_iff_eq] at hg
      exact .rxAccept _ hg.1 ‹_› hg.2
    · exact weaken (next_same h)
  | rxSlip =>
    simp only [exec, execRxSlip] at h
    split at h
    · refine weaken (fire_change h fun hg => ?_)
      simp only [Bool.and_eq_true, beq_iff_eq, Bool.not_eq_true'] at hg
      exact .rxSlip _ hg.1 ‹_› hg.2
    · exact weaken (next_same h)
  | rxScanEnd =>
    refine weaken (fire_change h fun hg => ?_)
    simp only [Bool.and_eq_true, beq_iff_eq, Bool.not_eq_true', Session.winReady, decide_eq_false_iff_not] at hg
    exact .rxScanEnd hg.1 (by omega)
  | rxEnq =>
    refine weaken (fire_change h fun hg => ?_)
    simp only [Bool.and_eq_true, beq_iff_eq, Bool.not_eq_true', Session.evqFull, decide_eq_false_iff_not] at hg
    exact .rxEnq hg.1 (by omega)
  | txTop => exact weaken (fire_change h fun hg => .txTop (by simpa using hg))
  | txDeq =>
    simp only [exec, execTxDeq] at h
    split at h
    · exact weaken (fire_change h fun hg => .txDeq _ _ (by simpa using hg) ‹_›)
    · exact weaken (next_same h)
  | txGatePass =>
    refine weaken (fire_change h fun hg => ?_)
    simp only [Bool.and_eq_true, beq_iff_eq] at hg
    exact .txGatePass hg.1 hg.2
  | txGateDeny =>
    refine weaken (fire_change h fun hg => ?_)
    simp only [Bool.and_eq_true, beq_iff_eq, Bool.not_eq_true'] at hg
    exact .txGateDeny hg.1 hg.2
  | txGapchk => exact weaken (fire_change h fun hg => .txGapchk (by simpa using hg))
  | txStamp =>
    refine weaken (fire_change h fun hg => ?_)
    simp only [Bool.and_eq_true, beq_iff_eq, decide_eq_true_eq] at hg
    exact .txStamp hg.1 hg.2
  | txWrite => exact weaken (fire_change h fun hg => .txWrite (by simpa using hg))
  | query r => cases h; exact ⟨.call [buildQuery s.params s.core.clientAddr r] (by simp), rfl⟩
  | setSpeed | setDefaultFanSpeed | setMaxFanSpeed => exact weaken (speedCommand_change h)
  | cmdPush d r v => cases h; exact ⟨.call [buildWrite s.core.clientAddr d r v] (by simp), rfl⟩
  | evPop =>
    simp only [exec, execEvPop] at h
    split at h <;> cases h
    · exact ⟨.evPop _ _ ‹_›, rfl⟩
    · exact ⟨.same, rfl⟩
  | sendInit => cases h; exact ⟨.call (initQueries s.params s.core.clientAddr) (fun _ => valid_of_mem_initQueries), rfl⟩

/-- Taking a turn leaves everything but the agenda and the counter of the free schedule. -/
theorem takeTurn_state (s : State) :
    (takeTurn s).2 = { s with agenda := (takeTurn s).2.agenda, turn := (takeTurn s).2.turn } := by
  unfold takeTurn
  split <;> rfl

/-- With a turn placed, that turn is taken. -/
theorem takeTurn_cons {s : State} {t : Turn} {rest : List Turn} (h : s.agenda = t :: rest) :
    takeTurn s = (t, { s with agenda := rest }) := by
  simp [takeTurn, h]

/-- Everything that a turn which runs no operation can do: the session changes as `CoreChange` says; or the clock goes on;
or another session becomes current; or LINE changes what an open would give. -/
theorem resolve_cases (t : Turn) (s : State) :
    (resolve t s).state = s ∨
    ((resolve t s).instr = none ∧
      ((∃ c, CoreChange s.params s.now s.core c ∧ (resolve t s).state = { s with core := c }) ∨
       (∃ d, (resolve t s).state = { s with now := s.now + d }) ∨
       (∃ k c, t = .session k ∧ s.others[k]? = some c ∧
        (resolve t s).state = { s with core := c, others := s.others.set k s.core }) ∨
       ∃ l, (resolve t s).state = { s with openErrors := l })) := by
  cases t with
  | word w =>
    simp only [resolve]
    split
    · exact .inl rfl
    · cases w with
      | wire w => exact .inr ⟨rfl, .inl ⟨_, .line _, rfl⟩⟩
      | host w => exact .inl rfl
      | phase w => exact .inl rfl
  | call i => exact .inl rfl
  | agent a => exact .inl rfl
  | caller k => exact .inr ⟨rfl, .inl ⟨_, .resume k, rfl⟩⟩
  | line e =>
    cases e with
    | offer o => exact .inr ⟨rfl, .inl ⟨_, .line _, rfl⟩⟩
    | close => exact .inr ⟨rfl, .inl ⟨_, .line _, rfl⟩⟩
    | lose k i n => exact .inr ⟨rfl, .inl ⟨_, .line _, rfl⟩⟩
    | openFails id err => exact .inr ⟨rfl, .inr (.inr (.inr ⟨_, rfl⟩))⟩
    | openWorks id => exact .inr ⟨rfl, .inr (.inr (.inr ⟨_, rfl⟩))⟩
  | clock d => exact .inr ⟨rfl, .inr (.inl ⟨d, rfl⟩)⟩
  | session k =>
    cases h : s.others[k]? with
    | none => left; simp [resolve, switchSession, h]
    | some c => exact .inr ⟨rfl, .inr (.inr (.inl ⟨k, c, rfl, h, by simp [resolve, switchSession, h]⟩))⟩

/-- Everything that a step can do. The current session changes as `CoreChange` says and the clock does not go back; or
another session becomes current and nothing else changes; or OPEN makes a new session. The parameters never change, and
in the first case the other sessions stay. -/
theorem step_cases {s t : State} (h : step s = .next t) :
    (CoreChange s.params s.now s.core t.core ∧ t.params = s.params ∧ t.others = s.others ∧ s.now ≤ t.now) ∨
    (∃ k c, (takeTurn s).1 = .session k ∧ s.others[k]? = some c ∧ t.core = c ∧
      t.others = s.others.set k s.core ∧ t.params = s.params ∧ t.now = s.now) ∨
    (∃ cfg, (fetch s).instr = some (.openSession cfg) ∧ addrInRange (cfgClientAddr cfg) = true ∧
      s.params.catalog.length ≤ s.params.cmdqCap ∧
      t.core = { configured s cfg with cmdq := initQueries s.params (cfgClientAddr cfg) } ∧
      t.others = s.core :: s.others ∧ t.params = s.params ∧ t.now = s.now) := by
  have hs := takeTurn_state s
  have hr := resolve_cases (takeTurn s).1 (takeTurn s).2
  generalize hturn : (takeTurn s).1 = turn at hr
  generalize hu : (takeTurn s).2 = u at hr hs
  have hp : u.params = s.params := by rw [hs]
  have hn : u.now = s.now := by rw [hs]
  have hc : u.core = s.core := by rw [hs]
  have ho : u.others = s.others := by rw [hs]
  have hf : fetch s = resolve turn u := by rw [fetch, hturn, hu]
  simp only [step, hf] at h
  split at h
  · rename_i i hi
    have hst : (resolve turn u).state = u := by
      rcases hr with hr | ⟨hnone, -⟩
      · exact hr
      · rw [hnone] at hi; cases hi
    rw [hst] at h
    by_cases hopen : ∃ cfg, i = .openSession cfg
    · obtain ⟨cfg, rfl⟩ := hopen
      rcases execOpenSession_cases h with ⟨r, rfl⟩ | ⟨ha, hl, rfl⟩
      · left
        simp only [State.give_core, State.give_params, State.give_others, State.give_now, hp, hn, hc, ho]
        exact ⟨.same, trivial, trivial, Nat.le_refl _⟩
      · right; right
        refine ⟨cfg, by rw [hf, hi], ha, by rw [← hp]; exact hl, ?_, by simp [ho, hc], hp, hn⟩
        simp [configured, hp, hn]
    · obtain ⟨hch, ht⟩ := exec_change (fun cfg hcfg => hopen ⟨cfg, hcfg⟩) h
      left
      rw [hp, hn, hc] at hch
      refine ⟨hch, ?_, ?_, ?_⟩ <;> rw [ht] <;> simp [hp, ho, hn]
  · cases h
    rcases hr with hr | ⟨-, ⟨c, hch, hr⟩ | ⟨d, hr⟩ | ⟨k, c, hk, hkc, hr⟩ | ⟨l, hr⟩⟩ <;> rw [hr]
    · left; rw [hc, hp, ho, hn]; exact ⟨.same, rfl, rfl, Nat.le_refl _⟩
    · left; rw [hp, hn, hc] at hch; exact ⟨hch, hp, ho, by rw [hn]⟩
    · left; simp only [hc, hp, ho, hn]; exact ⟨.same, trivial, trivial, Nat.le_add_right _ _⟩
    · right; left; exact ⟨k, c, hk, by rw [← ho]; exact hkc, rfl, by simp [ho, hc], hp, hn⟩
    · left; simp only [hc, hp, ho, hn]; exact ⟨.same, trivial, trivial, Nat.le_refl _⟩

/-- An invariant of every session, package once: it is kept if every `CoreChange` keeps it, a later clock keeps it, and a
fresh session has it. -/
theorem step_keeps_eachSession {P : Params → Nat → Session → Prop} {s t : State}
    (change : ∀ p now c c', P p now c → CoreChange p now c c' → P p now c')
    (later : ∀ p now now' c, now ≤ now' → P p now c → P p now' c)
    (fresh : ∀ cfg, addrInRange (cfgClientAddr cfg) = true → s.params.catalog.length ≤ s.params.cmdqCap →
      P s.params s.now { configured s cfg with cmdq := initQueries s.params (cfgClientAddr cfg) })
    (hs : ∀ c ∈ s.core :: s.others, P s.params s.now c) (h : step s = .next t) :
    ∀ c ∈ t.core :: t.others, P t.params t.now c := by
  rcases step_cases h with ⟨hch, hp, ho, hn⟩ | ⟨k, c, -, hk, hc, ho, hp, hn⟩ | ⟨cfg, -, ha, hl, hc, ho, hp, hn⟩
  · intro c hcm
    rw [ho] at hcm
    rw [hp]
    rcases List.mem_cons.1 hcm with rfl | hcm
    · exact later _ _ _ _ hn (change _ _ _ _ (hs _ (List.mem_cons_self)) hch)
    · exact later _ _ _ _ hn (hs _ (List.mem_cons_of_mem _ hcm))
  · intro d hd
    rw [hp, hn]
    apply hs
    rw [hc, ho] at hd
    rcases List.mem_cons.1 hd with rfl | hd
    · exact List.mem_cons_of_mem _ (List.mem_of_getElem? hk)
    · rcases List.mem_or_eq_of_mem_set hd with hd | rfl
      · exact List.mem_cons_of_mem _ hd
      · exact List.mem_cons_self
  · intro d hd
    rw [hp, hn]
    rw [hc, ho] at hd
    rcases List.mem_cons.1 hd with rfl | hd
    · exact fresh cfg ha hl
    · exact hs _ hd

end Sys2Proof.Machine
end

