-- ==== Sys2Proof/Laws/Scan.lean ====
section
/-! SUPPORT. The equations of SCAN, one per branch of spec/42_framing.md R172, so that no later proof unfolds its fuel. -/

namespace Sys2Proof.Machine

/-- A window stays when bytes are appended behind it. -/
theorem window_append {a : List Byte} {w : Frame} (b : List Byte) (h : window a = some w) :
    window (a ++ b) = some w := by
  have hl := length_of_window h
  rw [window_eq_some_iff] at *
  rw [List.drop_append_of_le_length hl, ← List.append_assoc, ← h]

/-- Fuel beyond the length of the buffer changes nothing. -/
theorem scanFuel_of_le (n : Nat) : ∀ (m : Nat) (buf : List Byte), buf.length ≤ n → n ≤ m →
    scanFuel m buf = scanFuel n buf := by
  induction n with
  | zero =>
    intro m buf hb _
    obtain rfl : buf = [] := by simpa using hb
    cases m <;> rfl
  | succ n ih =>
    intro m buf hb hm
    obtain ⟨m, rfl⟩ : ∃ k, m = k + 1 := ⟨m - 1, by omega⟩
    simp only [scanFuel]
    split
    · rfl
    · rename_i w hw
      have hl := length_of_window hw
      rw [ih m (buf.drop 6) (by simp; omega) (by omega), ih m (buf.drop 1) (by simp; omega) (by omega)]

/-- Fewer than six bytes: SCAN stops and leaves them. -/
theorem scan_of_no_window {buf : List Byte} (h : window buf = none) : scan buf = ([], buf) := by
  unfold scan
  cases buf.length with
  | zero => rfl
  | succ n => simp [scanFuel, h]

/-- A valid window: SCAN emits it and goes on behind its six bytes. -/
theorem scan_of_valid {buf : List Byte} {w : Frame} (h : window buf = some w) (hv : valid w = true) :
    scan buf = (w :: (scan (buf.drop 6)).1, (scan (buf.drop 6)).2) := by
  have hl := length_of_window h
  conv_lhs => unfold scan
  obtain ⟨n, hn⟩ : ∃ n, buf.length = n + 1 := ⟨buf.length - 1, by omega⟩
  rw [hn]
  simp only [scanFuel, h, hv, if_true]
  rw [scanFuel_of_le (buf.drop 6).length n _ (le_refl _) (by simp; omega)]
  rfl

/-- An invalid window: SCAN goes on one byte further. -/
theorem scan_of_invalid {buf : List Byte} {w : Frame} (h : window buf = some w) (hv : valid w = false) :
    scan buf = scan (buf.drop 1) := by
  have hl := length_of_window h
  conv_lhs => unfold scan
  obtain ⟨n, hn⟩ : ∃ n, buf.length = n + 1 := ⟨buf.length - 1, by omega⟩
  rw [hn]
  simp only [scanFuel, h, hv]
  rw [scanFuel_of_le (buf.drop 1).length n _ (le_refl _) (by simp; omega)]
  rfl

end Sys2Proof.Machine
end

