-- ==== Sys2Proof/Laws/Words.lean ====
section
/-! SUPPORT. The bit layouts of spec/30_encoding.md R91 and R100, each taken apart and put together again, so that no
later proof works on single bits. -/

namespace Sys2Proof.Machine

/-- The fields of the string of a frame are the frame. -/
theorem wordFrame_frameWord (f : Frame) : wordFrame (frameWord f) = f := by
  obtain ⟨y, s, d, r, v, c⟩ := f
  simp only [wordFrame, frameWord, Frame.mk.injEq]
  refine ⟨?_, ?_, ?_, ?_, ?_, ?_⟩ <;>
    (apply BitVec.eq_of_getLsbD_eq
     intro i hi
     simp only [BitVec.getLsbD_extractLsb', BitVec.getLsbD_append]
     interval_cases i <;> simp)

/-- The string of the fields of a string is that string. -/
theorem frameWord_wordFrame (w : BitVec 48) : frameWord (wordFrame w) = w := by
  simp only [wordFrame, frameWord]
  apply BitVec.eq_of_getLsbD_eq
  intro i hi
  simp only [BitVec.getLsbD_extractLsb', BitVec.getLsbD_append]
  interval_cases i <;> simp

/-- The four bytes of a host word. -/
theorem hostWord_bytes (op a b c : Byte) :
    (hostWord op a b c).extractLsb' 24 8 = op ∧ (hostWord op a b c).extractLsb' 16 8 = a ∧
      (hostWord op a b c).extractLsb' 8 8 = b ∧ (hostWord op a b c).extractLsb' 0 8 = c := by
  simp only [hostWord]
  refine ⟨?_, ?_, ?_, ?_⟩ <;>
    (apply BitVec.eq_of_getLsbD_eq
     intro i hi
     simp only [BitVec.getLsbD_extractLsb', BitVec.getLsbD_append]
     interval_cases i <;> simp)

/-- A level that fits the signed byte of a host word comes back from it. -/
theorem sext8_ofInt {n : Int} (h : levelFits n = true) : sext8 (BitVec.ofInt 8 n) = n := by
  simp only [levelFits, Bool.and_eq_true, decide_eq_true_eq] at h
  simp only [sext8, BitVec.toInt_ofInt, Int.bmod]
  omega

/-- Every signed byte is a level that fits. -/
theorem levelFits_sext8 (a : Byte) : levelFits (sext8 a) = true := by
  have := a.isLt
  simp only [levelFits, sext8, BitVec.toInt_eq_toNat_cond]
  split_ifs <;> simp <;> omega

end Sys2Proof.Machine
end

