-- ==== Sys2Proof/Tests/Slice0.lean ====
section
/-! SUPPORT. The model's own tests: the WellFormed smoke tests, one word per encodable operation written out from
spec/30_encoding.md, the vectors of spec/95_test_vectors.md one step at a time, and for every obligation with hypotheses a
concrete state and operands that meet them. Every expected value is the spec's own (the vector or the rule named). -/

namespace Sys2Proof.Tests

open Sys2Proof.Machine

/-! ## Small states -/

/-- The next state of an outcome, if it is one. -/
def nextOf : Host.Outcome State Fault Refusal → Option State
  | .next t => some t
  | _ => none

/-- A frame from its six bytes. -/
def bytes6 (y so d r v c : Byte) : Frame := ⟨y, so, d, r, v, c⟩

/-- A session under T0 with every queue empty. -/
def quiet : Session where
  clientAddr := 0x27
  writeEn := false
  debugSink := .discard
  transport := 0
  running := true
  lastActivity := 0
  rxbuf := []
  evq := []
  cmdq := []
  rxPhase := .rxTop
  evr := ⟨0, 0, 0, 0, 0, .int 0⟩
  txPhase := .txTop
  txf := bytes6 0 0 0 0 0 0
  txDeadline := 0
  wireOut := []
  diag := []
  line := []
  callers := []
  stamps := []

/-- A state under T0 at time `now` with the given session. -/
def withCore (now : Nat) (c : Session) : State where
  params := Params.t0
  now := now
  core := c
  others := []
  openErrors := []
  ret := .nothing
  agenda := []
  turn := 0

/-- The quiet state. -/
def start : State := withCore 0 quiet

/-- What an operation hands back in the quiet state. -/
def retOf (i : Instr) : Option Result := (nextOf (exec i start)).map State.ret

/-- The session after an operation. -/
def coreOf (i : Instr) (s : State) : Option Session := (nextOf (exec i s)).map State.core

/-- The sessions and the value handed back: the cells an operation could change. -/
def seen (t : State) : Session × List Session × Result := (t.core, t.others, t.ret)

/-- An event without content. -/
def someEvent : Event := ⟨0, 0, 0, 0, 0, .int 0⟩

/-- A query frame and a write frame of T0 (V-C1, V-C3). -/
def q29 : Frame := bytes6 0x01 0x27 0x11 0x00 0x29 0x62

/-- A write of the current fan speed (V-C3). -/
def w29 : Frame := bytes6 0x01 0x27 0x11 0x29 0x07 0x69

/-- The same write to the panel group (spec/45_commands.md R242). -/
def p29 : Frame := bytes6 0x01 0x27 0x20 0x29 0x07 0x78

/-! ## WellFormed: an ill-formed term for each check -/

theorem test_wf_frameQuery_checksum : Instr.wellFormed (.frameQuery 0x01 0x27 0x11 0x29 0x63) = false := by decide
theorem test_wf_frameData_checksum : Instr.wellFormed (.frameData 0x01 0x11 0x20 0x35 0x98 0x00) = false := by decide
theorem test_wf_frameData_register : Instr.wellFormed (.frameData 0x01 0x27 0x11 0x00 0x29 0x62) = false := by decide
theorem test_wf_mkEvent_window : Instr.wellFormed (.mkEvent 0 (bytes6 1 2 3 4 5 6)) = false := by decide
theorem test_wf_setSpeed_level :
    Instr.wellFormed (.setSpeed 128) = false ∧ Instr.wellFormed (.setSpeed (-129)) = false := by decide
theorem test_wf_setDefaultFanSpeed_level :
    Instr.wellFormed (.setDefaultFanSpeed 128) = false ∧ Instr.wellFormed (.setDefaultFanSpeed (-129)) = false := by
  decide
theorem test_wf_setMaxFanSpeed_level :
    Instr.wellFormed (.setMaxFanSpeed 128) = false ∧ Instr.wellFormed (.setMaxFanSpeed (-129)) = false := by decide
theorem test_wf_reservedCmd_op : ([1, 2, 3, 4, 5, 6, 7] : List Byte).all (fun op =>
    Instr.wellFormed (.reservedCmd op 0 0 0) = false) = true := by decide

/-! ## Decode: a word for every encodable operation, written out bit by bit -/

/-- R91: yyyyyyyy ssssssss dddddddd 00000000 vvvvvvvv cccccccc; the bytes are those of V-C1. -/
theorem test_decode_frameQuery :
    decode (.wire 0b00000001_00100111_00010001_00000000_00101001_01100010)
      = .ok (.frameQuery 0x01 0x27 0x11 0x29 0x62) := by decide
/-- R91: a register byte that is not 0; the bytes are those of V-C7. -/
theorem test_decode_frameData :
    decode (.wire 0b00000001_00010001_00100000_00110101_10011000_11111111)
      = .ok (.frameData 0x01 0x11 0x20 0x35 0x98 0xFF) := by decide
/-- R97, V-C8: a wrong sixth byte is no frame. -/
theorem test_decode_wire_rejects :
    decode (.wire 0b00000001_00010001_00100000_00110101_10011000_00000000) = .error .checksumMismatch := by decide
/-- R97, V-F8: the all-zero window is a frame of class QUERY. -/
theorem test_decode_wire_zero : decode (.wire 0) = .ok (.frameQuery 0 0 0 0 0) := by decide
theorem test_decode_query : decode (.host 0b00000001_00110101_00000000_00000000) = .ok (.query 0x35) := by decide
theorem test_decode_setSpeed : decode (.host 0b00000010_00000011_00000000_00000000) = .ok (.setSpeed 3) := by decide
/-- V-H5: the level is a signed byte. -/
theorem test_decode_setSpeed_signed :
    [decode (.host 0x02FF0000), decode (.host 0x02800000), decode (.host 0x027F0000)]
      = [.ok (.setSpeed (-1)), .ok (.setSpeed (-128)), .ok (.setSpeed 127)] := by decide
theorem test_decode_setDefaultFanSpeed :
    decode (.host 0b00000011_00000001_00000000_00000000) = .ok (.setDefaultFanSpeed 1) := by decide
theorem test_decode_setMaxFanSpeed :
    decode (.host 0b00000100_00001000_00000000_00000000) = .ok (.setMaxFanSpeed 8) := by decide
theorem test_decode_cmdPush :
    decode (.host 0b00000101_00010001_00110010_10000000) = .ok (.cmdPush 0x11 0x32 0x80) := by decide
theorem test_decode_evPop : decode (.host 0b00000110_00000000_00000000_00000000) = .ok .evPop := by decide
theorem test_decode_status : decode (.host 0b00000111_00000000_00000000_00000000) = .ok .status := by decide
/-- V-H13. -/
theorem test_decode_reservedCmd :
    [decode (.host 0x00000000), decode (.host 0x08000000), decode (.host 0xFF123456)]
      = [.ok (.reservedCmd 0x00 0 0 0), .ok (.reservedCmd 0x08 0 0 0), .ok (.reservedCmd 0xFF 0x12 0x34 0x56)] := by
  decide
/-- V-H15: the ignored operand bytes. -/
theorem test_decode_ignored_bytes :
    [decode (.host 0x0135ABCD), decode (.host 0x0203FFFF), decode (.host 0x06123456), decode (.host 0x07FFFFFF)]
      = [.ok (.query 0x35), .ok (.setSpeed 3), .ok .evPop, .ok .status] := by decide
/-- R102: phases 000 and 001, in bits 2:0; the number of the row in bits 7:3. -/
theorem test_decode_phase_000_001 :
    [decode (.phase 0b00000_000), decode (.phase 0b00001_000), decode (.phase 0b00000_001), decode (.phase 0b00001_001),
      decode (.phase 0b00010_001)]
      = [.ok .rxTop, .ok .txTop, .ok .rxReadOk, .ok .rxReadFail, .ok .txDeq] := by decide
/-- R102: phase 010. -/
theorem test_decode_phase_010 :
    [decode (.phase 0b00000_010), decode (.phase 0b00001_010), decode (.phase 0b00010_010), decode (.phase 0b00011_010),
      decode (.phase 0b00100_010)]
      = [.ok .rxAccept, .ok .rxSlip, .ok .rxScanEnd, .ok .txGatePass, .ok .txGateDeny] := by decide
/-- R102: phases 011, 100 and 101. -/
theorem test_decode_phase_011_101 :
    [decode (.phase 0b00000_011), decode (.phase 0b00001_011), decode (.phase 0b00000_100), decode (.phase 0b00000_101)]
      = [.ok .rxEnq, .ok .txGapchk, .ok .txStamp, .ok .txWrite] := by decide
/-- R102: in phases 110 and 111 there is no step. -/
theorem test_decode_phase_rejects :
    [decode (.phase 0b00000_110), decode (.phase 0b00000_111), decode (.phase 0b00010_000)]
      = [.error .noSuchStep, .error .noSuchStep, .error .noSuchStep] := by decide
/-- The table's numbering: bit 0 is the least significant bit of the word. -/
theorem test_decodeTableWord :
    [decodeTableWord 32 0x01000000, decodeTableWord 48 0x012711002962, decodeTableWord 8 2, decodeTableWord 8 7]
      = [some (.query 0), some (.frameQuery 0x01 0x27 0x11 0x29 0x62), some .rxAccept, none] := by decide

/-! ## The codec and the line (V-C) -/

theorem test_frameQuery_arrives :
    (coreOf (.frameQuery 0x01 0x27 0x11 0x29 0x62) start).map Session.line
      = some [.ok [0x01, 0x27, 0x11, 0x00, 0x29, 0x62]] := by decide
theorem test_frameData_arrives :
    (coreOf (.frameData 0x01 0x11 0x20 0x35 0x98 0xFF) start).map Session.line
      = some [.ok [0x01, 0x11, 0x20, 0x35, 0x98, 0xFF]] := by decide
/-- V-C4, V-C5. -/
theorem test_checksum :
    [retOf (.checksum 0 0 0 0 0), retOf (.checksum 0xFF 0xFF 0xFF 0xFF 0xFF)]
      = [some (.byte 0x00), some (.byte 0xFB)] := by decide
/-- V-C3, V-C6. -/
theorem test_encode :
    [retOf (.encode 0x01 0x27 0x11 0x29 0x07), retOf (.encode 0x01 0x2F 0x20 0xA5 0xFF)]
      = [some (.frame w29), some (.frame (bytes6 0x01 0x2F 0x20 0xA5 0xFF 0xF4))] := by decide
/-- V-C7, V-C10, V-C11, V-C12. -/
theorem test_decode_valid :
    [bytes6 0x01 0x11 0x20 0x35 0x98 0xFF, bytes6 0x01 0x28 0x10 0x29 0x07 0x69, bytes6 0x01 0x11 0x27 0x29 0x07 0x69,
      bytes6 0xFF 0xFF 0xFF 0xFF 0xFF 0xFB].all (fun b => retOf (.decode b) = some (.frame b)) = true := by decide
/-- V-C8, V-C12. -/
theorem test_decode_invalid :
    [bytes6 0x01 0x11 0x20 0x35 0x98 0x00, bytes6 0xFF 0xFF 0xFF 0xFF 0xFF 0xFF].all
      (fun b => retOf (.decode b) = some (.error (.checksumMismatch b))) = true := by decide
/-- V-C9: all 48 single-bit flips are invalid. -/
theorem test_single_bit_flips :
    (List.range 48).all (fun i => !valid (wordFrame (frameWord w29 ^^^ (1#48 <<< i)))) = true := by decide

/-! ## The translator (V-T) -/

/-- V-T1. -/
theorem test_speedToValue :
    ([1, 2, 3, 4, 5, 6, 7, 8] : List Int).map (fun n => retOf (.speedToValue n))
      = ([0x01, 0x03, 0x07, 0x0F, 0x1F, 0x3F, 0x7F, 0xFF] : List Byte).map (fun v => some (.byte v)) := by decide
/-- V-T3. -/
theorem test_speedToValue_rejects :
    ([0, 9, -1, 256] : List Int).all (fun n => retOf (.speedToValue n) = some (.error (.invalidSpeedLevel n))) = true := by
  decide
/-- V-T1. -/
theorem test_valueToSpeed :
    ([0x01, 0x03, 0x07, 0x0F, 0x1F, 0x3F, 0x7F, 0xFF] : List Byte).map (fun v => retOf (.valueToSpeed v))
      = ([1, 2, 3, 4, 5, 6, 7, 8] : List Int).map (fun n => some (.int n)) := by decide
/-- V-T2. -/
theorem test_valueToSpeed_unknown :
    ([0x00, 0x02, 0x05, 0x0E, 0x10, 0x80, 0xFE] : List Byte).all
      (fun v => retOf (.valueToSpeed v) = some (.int (-1))) = true := by decide
/-- V-T4. -/
theorem test_valueToRh :
    ([0x00, 0x01, 0x33, 0x66, 0x80, 0x99, 0xFE, 0xFF] : List Byte).map (fun v => retOf (.valueToRh v))
      = ([2500, 2549, 5000, 7500, 8775, 10000, 14951, 15000] : List Int).map
          (fun m => some (.tval (.fix m .hundredths))) := by decide
/-- V-T5, V-T6. -/
theorem test_valueToTemp :
    ([0x00, 0xFF, 0x64, 0x98, 0xA0, 0xF7] : List Byte).map (fun v => retOf (.valueToTemp v))
      = ([-74, 100, 0, 17, 20, 100] : List Int).map (fun i => some (.int i)) := by decide
/-- V-T7. -/
theorem test_valueToDuty :
    ([0x00, 0x01, 0x7D, 0xFA, 0xFF] : List Byte).map (fun v => retOf (.valueToDuty v))
      = ([0, 4, 500, 1000, 1020] : List Int).map (fun m => some (.tval (.fix m .tenths))) := by decide
/-- V-T8. -/
theorem test_valueRaw :
    ([0x00, 0x7F, 0x80, 0xFF] : List Byte).map (fun v => retOf (.valueRaw v))
      = ([0, 127, 128, 255] : List Int).map (fun i => some (.int i)) := by decide
/-- V-T9. -/
theorem test_kindOf :
    ([0x29, 0xA9, 0xA5, 0x2A, 0x2F, 0x30, 0xAE] : List Byte).map (kindOf Params.t0)
      = [.fanSpeed, .fanSpeed, .fanSpeed, .rh, .rh, .rh, .rh] ∧
    ([0x32, 0x33, 0x34, 0x35, 0x57, 0xA4, 0xA7, 0xAF] : List Byte).all (fun r => retOf (.kindOf r) = some (.kind .temp))
      = true := by decide
/-- V-T9. -/
theorem test_kindOf_rest :
    ([0x55, 0x56] : List Byte).all (fun r => retOf (.kindOf r) = some (.kind .duty)) = true ∧
    ([0x00, 0x01, 0x28, 0x2B, 0x36, 0xAA, 0xFF] : List Byte).all (fun r => retOf (.kindOf r) = some (.kind .byDefault))
      = true := by decide
/-- V-T10, V-T12, V-T14. -/
theorem test_translate_int :
    ([(0x29, 0x07), (0xA5, 0xFF), (0xA9, 0x04), (0x32, 0x00), (0xAF, 0xFF), (0x35, 0x98), (0x00, 0x29), (0xAA, 0x80),
      (0x36, 0xFF)] : List (Byte × Byte)).map (fun p => retOf (.translate p.1 p.2))
      = ([3, 8, -1, -74, 100, 17, 41, 128, 255] : List Int).map (fun i => some (.tval (.int i))) := by decide
/-- V-T11, V-T13. -/
theorem test_translate_fix :
    [retOf (.translate 0x2A 0x66), retOf (.translate 0xAE 0x00), retOf (.translate 0x55 0x7D), retOf (.translate 0x56 0xFF)]
      = [some (.tval (.fix 7500 .hundredths)), some (.tval (.fix 2500 .hundredths)), some (.tval (.fix 500 .tenths)),
        some (.tval (.fix 1020 .tenths))] := by decide
/-- The worked example of spec/43_session.md R194. -/
theorem test_mkEvent :
    retOf (.mkEvent 1000000 (bytes6 0x01 0x11 0x21 0x29 0x0F 0x6B))
      = some (.event ⟨1000000, 0x11, 0x21, 0x29, 0x0F, .int 4⟩) := by decide

/-! ## Policy, builders and filter (V-W, V-C1, V-C2, V-H9) -/

/-- V-W1, write-enable 0. -/
theorem test_isWriteAllowed_readOnly :
    ([0x00, 0x29, 0xA9, 0xA5, 0xAA, 0x32, 0x2A, 0x55, 0x01, 0xFF] : List Byte).map (fun r => retOf (.isWriteAllowed r))
      = [true, false, false, false, false, false, false, false, false, false].map (fun b => some (.bool b)) := by decide
/-- V-W1, write-enable 1: over all bytes exactly five are allowed. -/
theorem test_isWriteAllowed_enabled :
    ((List.range 256).filter fun r => isWriteAllowed Params.t0 true (BitVec.ofNat 8 r))
      = [0x00, 0x29, 0xA5, 0xA9, 0xAA] := by decide
/-- V-C1, V-C2. -/
theorem test_buildQuery :
    [retOf (.buildQuery 0x29), retOf (.buildQuery 0x35)]
      = [some (.frame q29), some (.frame (bytes6 0x01 0x27 0x11 0x00 0x35 0x6E))] := by decide
/-- The worked examples of spec/45_commands.md R242. -/
theorem test_buildWrite :
    [retOf (.buildWrite 0x11 0x29 0x07), retOf (.buildWrite 0x20 0x29 0x07)] = [some (.frame w29), some (.frame p29)] := by
  decide
/-- V-H9, client address 0x27. -/
theorem test_forMe :
    ([0x20, 0x27, 0x21, 0x11, 0x10, 0x00] : List Byte).map (fun d => retOf (.forMe { someEvent with destination := d }))
      = [true, true, false, false, false, false].map (fun b => some (.bool b)) := by decide
/-- V-H9, client address 0x2F. -/
theorem test_forMe_other_address :
    ([0x20, 0x27, 0x21, 0x11, 0x10, 0x00] : List Byte).map (fun d => forMe Params.t0 0x2F { someEvent with destination := d })
      = [true, false, false, false, false, false] := by decide

/-! ## RX (V-R, V-F) -/

/-- RX about to read: two bytes buffered, an earlier stamp (V-R2). -/
def reading (l : List Offer) : State :=
  withCore 2000000 { quiet with rxPhase := .rxRead, lastActivity := 1850000, rxbuf := [0x01, 0x11], line := l }

/-- RX in the scan over a buffer. -/
def scanning (buf : List Byte) : State :=
  withCore 1000000 { quiet with rxPhase := .rxScan, rxbuf := buf }

/-- RX with an event in hand and `n` events queued. -/
def enqueuing (n : Nat) : State :=
  withCore 0 { quiet with rxPhase := .rxEnq, evr := { someEvent with ts := 7 }, evq := List.replicate n someEvent }

/-- V-R1. -/
theorem test_rxTop :
    [(coreOf .rxTop start).map Session.rxPhase, (coreOf .rxTop (withCore 0 { quiet with running := false })).map Session.rxPhase]
      = [some .rxRead, some .rxHalt] := by decide
/-- V-R2. -/
theorem test_rxReadOk :
    (coreOf .rxReadOk (reading [.ok [0x20, 0x29, 0x07, 0x62]])).map (fun c => (c.lastActivity, c.rxbuf, c.rxPhase, c.line))
      = some (2000000, [0x01, 0x11, 0x20, 0x29, 0x07, 0x62], .rxScan, []) := by decide
/-- V-R3. -/
theorem test_rxReadOk_empty :
    (coreOf .rxReadOk (reading [.ok []])).map (fun c => (c.lastActivity, c.rxbuf, c.rxPhase))
      = some (2000000, [0x01, 0x11], .rxTop) := by decide
/-- V-R4. -/
theorem test_rxReadFail :
    (coreOf .rxReadFail (reading [.fail])).map (fun c => (c.running, c.rxPhase, c.lastActivity, c.rxbuf, c.diag))
      = some (false, .rxHalt, 1850000, [0x01, 0x11], []) := by decide
/-- V-R5. -/
theorem test_rxAccept :
    (coreOf .rxAccept (scanning [0x01, 0x11, 0x21, 0x29, 0x0F, 0x6B])).map (fun c => (c.evr, c.rxbuf, c.rxPhase))
      = some (⟨1000000, 0x11, 0x21, 0x29, 0x0F, .int 4⟩, [], .rxEnq) := by decide
set_option maxRecDepth 20000 in
/-- V-F10: the seventh byte waits; RX.ACCEPT leaves an invalid window. -/
theorem test_rxAccept_seventh :
    (coreOf .rxAccept (scanning [0x01, 0x11, 0x20, 0x29, 0x07, 0x62, 0x01])).map Session.rxbuf = some [0x01] ∧
    coreOf .rxAccept (scanning [0xFF, 0xFF, 0xFF, 0xFF, 0xFF, 0xFF])
      = some (scanning [0xFF, 0xFF, 0xFF, 0xFF, 0xFF, 0xFF]).core := by decide
/-- The worked example of spec/42_framing.md R174. -/
theorem test_rxSlip :
    (coreOf .rxSlip (scanning [0xAA, 0x01, 0x11, 0x20, 0x35, 0x98, 0xFF])).map (fun c => (c.rxbuf, c.rxPhase, c.diag))
      = some ([0x01, 0x11, 0x20, 0x35, 0x98, 0xFF], .rxScan, []) := by decide
/-- V-F3. -/
theorem test_rxScanEnd :
    (coreOf .rxScanEnd (scanning [0x01, 0x11, 0x20, 0x29, 0x07])).map (fun c => (c.rxbuf, c.rxPhase))
      = some ([0x01, 0x11, 0x20, 0x29, 0x07], .rxTop) := by decide
/-- V-R6: EVR becomes the hundredth event. -/
theorem test_rxEnq :
    (coreOf .rxEnq (enqueuing 99)).map (fun c => (c.evq.length, c.evq.getLast?, c.rxPhase))
      = some (100, some { someEvent with ts := 7 }, .rxScan) := by decide
/-- V-R7, V-R8: on a full EVQ, and halted, RX has no step. -/
theorem test_rx_blocked :
    [select .rx (enqueuing 100), select .rx (withCore 0 { quiet with rxPhase := .rxHalt }), select .rx (reading [])]
      = [none, none, none] := by decide
/-- V-F1, V-F4, V-F5: the frames and the bytes left. -/
theorem test_scan_resync :
    scan [0xAA, 0x55, 0x00, 0x01, 0x11, 0x20, 0x29, 0x07, 0x62] = ([bytes6 0x01 0x11 0x20 0x29 0x07 0x62], []) ∧
    scan [0x01, 0x11, 0x20, 0x29, 0x06, 0x62, 0x01, 0x11, 0x20, 0x35, 0x98, 0xFF]
      = ([bytes6 0x01 0x11 0x20 0x35 0x98 0xFF], []) ∧
    scan [0x01, 0x11, 0x20, 0x29, 0x62, 0x01, 0x11, 0x20, 0x35, 0x98, 0xFF]
      = ([bytes6 0x01 0x11 0x20 0x35 0x98 0xFF], []) := by decide
/-- V-F6, V-F8, V-F9: false synchronisation, a line stuck at 0, a run of FF. -/
theorem test_scan_degenerate :
    scan [0x02, 0x04, 0x08, 0x01, 0x11, 0x20, 0x29, 0x07, 0x62, 0x01, 0x11, 0x20, 0x35, 0x98, 0xFF]
      = ([bytes6 0x02 0x04 0x08 0x01 0x11 0x20, bytes6 0x01 0x11 0x20 0x35 0x98 0xFF], []) ∧
    scan (List.replicate 13 0x00) = ([bytes6 0 0 0 0 0 0, bytes6 0 0 0 0 0 0], [0x00]) ∧
    scan (List.replicate 12 0xFF) = ([], List.replicate 5 0xFF) := by decide

/-! ## TX (V-X) -/

/-- TX in a phase, holding a frame, at a time, with a stamp, a deadline and a queue. -/
def sending (ph : TxPhase) (now la dl : Nat) (f : Frame) (q : List Frame) : State :=
  withCore now { quiet with txPhase := ph, lastActivity := la, txDeadline := dl, txf := f, cmdq := q }

/-- V-X10, and TX.TOP of a running session. -/
theorem test_txTop :
    (coreOf .txTop (withCore 0 { quiet with running := false, cmdq := [q29] })).map (fun c => (c.txPhase, c.cmdq))
      = some (.txHalt, [q29]) ∧ (coreOf .txTop start).map Session.txPhase = some .txDeq := by decide
/-- V-X8. -/
theorem test_txDeq :
    (coreOf .txDeq (sending .txDeq 0 0 0 q29 [w29, p29])).map (fun c => (c.txf, c.cmdq, c.txPhase))
      = some (w29, [p29], .txGate) := by decide
/-- V-X9, V-X4: parked on an empty CMDQ, and before the deadline, TX has no step. -/
theorem test_tx_blocked :
    [select .tx (sending .txDeq 0 0 0 q29 []), select .tx (sending .txWait 1049999 0 1050000 q29 []),
      select .tx (sending .txHalt 0 0 0 q29 [w29])] = [none, none, none] := by decide
/-- V-X12, and a query in read-only mode (spec/43_session.md R203). -/
theorem test_txGatePass :
    (coreOf .txGatePass (withCore 0 { quiet with txPhase := .txGate, writeEn := true, txf := w29 })).map Session.txPhase
      = some .txGap ∧ (coreOf .txGatePass (sending .txGate 0 0 0 q29 [])).map Session.txPhase = some .txGap := by decide
/-- V-X11. -/
theorem test_txGateDeny :
    (coreOf .txGateDeny (sending .txGate 9 5 0 w29 [])).map (fun c => (c.diag, c.txPhase, c.wireOut, c.lastActivity))
      = some ([.writeDenied w29], .txTop, [], 5) := by decide
/-- V-X1, V-X2, V-X3. -/
theorem test_txGapchk :
    ([(1020000, 1000000), (1049999, 1000000), (1050000, 1000000), (1050001, 1000000), (3000000, 3000000)] :
        List (Nat × Nat)).map (fun p => (coreOf .txGapchk (sending .txGap p.1 p.2 0 q29 [])).map
          (fun c => (c.txDeadline, c.txPhase)))
      = ([1050000, 1050000, 1050000, 1050001, 3050000] : List Nat).map (fun d => some (d, .txWait)) := by decide
/-- V-X5, V-X6. -/
theorem test_txStamp :
    ([1050000, 1063500] : List Nat).map (fun now => (coreOf .txStamp (sending .txWait now 0 1050000 q29 [])).map
        (fun c => (c.lastActivity, c.txPhase)))
      = [some (1050000, .txWrite), some (1063500, .txWrite)] := by decide
/-- V-X7. -/
theorem test_txWrite :
    (coreOf .txWrite (sending .txWrite 1050000 0 0 q29 [])).map (fun c => (c.wireOut, c.txPhase))
      = some ([(1050000, q29)], .txTop) := by decide

/-! ## The host port (V-H), each word through one step -/

/-- One step on a host word placed in the quiet state. -/
def hostStep (w : Nat) (s : State) : Option State := nextOf (step (s.withFetchWord 32 w))

/-- V-H1, V-H2. -/
theorem test_query :
    [0x01350000, 0x01000000, 0x01FF0000].map (fun w => (hostStep w start).map (fun t => t.core.cmdq))
      = [some [bytes6 0x01 0x27 0x11 0x00 0x35 0x6E], some [bytes6 0x01 0x27 0x11 0x00 0x00 0x39],
        some [bytes6 0x01 0x27 0x11 0x00 0xFF 0x38]] := by decide
/-- V-H3: the controller's frame is queued, the panel group's waits with its caller for the caller's turn. -/
theorem test_setSpeed :
    (hostStep 0x02030000 start).map (fun t => (t.core.cmdq, t.core.callers)) = some ([w29], [[p29]]) ∧
    (quiet.call 100 [w29, p29]).resume 100 0 = { quiet with cmdq := [w29, p29] } := by decide
/-- V-H5. -/
theorem test_setSpeed_rejects :
    ([(0x02000000, 0), (0x02090000, 9), (0x02FF0000, -1), (0x02800000, -128), (0x027F0000, 127)] : List (Nat × Int)).all
      (fun p => (hostStep p.1 start).map (fun t => (t.core.cmdq, t.core.diag, t.ret))
        = some ([], [.invalidSpeedLevel p.2], .nothing)) = true := by decide
/-- V-H6. -/
theorem test_setDefaultFanSpeed :
    (hostStep 0x03010000 start).map (fun t => (t.core.cmdq, t.core.callers))
      = some ([bytes6 0x01 0x27 0x11 0xA9 0x01 0xE3], [[bytes6 0x01 0x27 0x20 0xA9 0x01 0xF2]]) := by decide
/-- V-H7. -/
theorem test_setMaxFanSpeed :
    (hostStep 0x04080000 start).map (fun t => (t.core.cmdq, t.core.callers))
      = some ([bytes6 0x01 0x27 0x11 0xA5 0xFF 0xDD], [[bytes6 0x01 0x27 0x20 0xA5 0xFF 0xEC]]) := by decide
/-- V-H8. -/
theorem test_cmdPush :
    [0x05113280, 0x0511AA01, 0x05200029].map (fun w => (hostStep w start).map (fun t => t.core.cmdq))
      = [some [bytes6 0x01 0x27 0x11 0x32 0x80 0xEB], some [bytes6 0x01 0x27 0x11 0xAA 0x01 0xE4],
        some [bytes6 0x01 0x27 0x20 0x00 0x29 0x71]] := by decide
set_option maxRecDepth 20000 in
/-- V-H10, V-H11. -/
theorem test_evPop :
    (hostStep 0x06000000 (withCore 0 { quiet with evq := [someEvent, { someEvent with ts := 1 }] })).map
        (fun t => (t.ret, t.core.evq)) = some (.event someEvent, [{ someEvent with ts := 1 }]) ∧
    (hostStep 0x06000000 start).map seen = some (seen start) := by decide
/-- V-H12. -/
theorem test_status :
    [true, false].map (fun r => (hostStep 0x07000000 (withCore 0 { quiet with running := r })).map State.ret)
      = [some (.running true), some (.running false)] := by decide
set_option maxRecDepth 20000 in
/-- V-H13. -/
theorem test_reservedCmd :
    [0x00000000, 0x08000000, 0xFF123456].all (fun w => (hostStep w start).map seen = some (seen start)) = true := by decide
/-- V-H14: one free slot takes the controller's frame; on a full CMDQ both wait. -/
theorem test_push_waits :
    ([99, 100] : List Nat).map (fun n =>
        (hostStep 0x02030000 (withCore 0 { quiet with cmdq := List.replicate n q29 })).map
          (fun t => (t.core.cmdq.length, t.core.callers)))
      = [some (100, [[p29]]), some (100, [[w29, p29]])] := by decide

/-! ## OPEN and SEND_INIT (V-O, P1) -/

/-- A configuration on transport 1. -/
def openWith (a : Option Byte) : OpenConfig := ⟨⟨1, false⟩, a, none, none⟩

set_option maxRecDepth 20000 in
/-- V-O1. -/
theorem test_open_bad_address :
    ([0x1F, 0x30, 0x00, 0xFF] : List Byte).all (fun a =>
      (nextOf (exec (.openSession (openWith (some a))) start)).map seen
        = some (seen { start with ret := .error (.invalidAddress a) })) = true := by decide
/-- V-O2, V-O5: the first init query. -/
theorem test_open :
    [some 0x20, some 0x2F, none].map (fun a => (coreOf (.openSession (openWith a)) start).map
        (fun c => (c.clientAddr, c.cmdq.length, c.cmdq.head?)))
      = [some (0x20, 18, some (bytes6 0x01 0x20 0x11 0x00 0x29 0x5B)),
        some (0x2F, 18, some (bytes6 0x01 0x2F 0x11 0x00 0x29 0x6A)), some (0x27, 18, some q29)] := by decide
set_option maxRecDepth 20000 in
/-- V-O3, V-O4: the transport's error is passed on; a bad address is found first. -/
theorem test_open_transport_error :
    (nextOf (exec (.openSession (openWith none)) { start with openErrors := [(1, 42)] })).map seen
      = some (seen { start with ret := .transportError 42 }) ∧
    (nextOf (exec (.openSession (openWith (some 0x30))) { start with openErrors := [(1, 42)] })).map seen
      = some (seen { start with ret := .error (.invalidAddress 0x30) }) := by decide
/-- P1: the first push of SEND_INIT, and the last of the pushes its caller still has to make (R250, R264). -/
theorem test_sendInit :
    (coreOf .sendInit start).map (fun c => (c.cmdq, c.callers.map List.length, c.callers.flatten.getLast?))
      = some ([q29], [17], some (bytes6 0x01 0x27 0x11 0x00 0xAF 0xE8)) := by decide
/-- R270: the codes of the results of `open`. -/
theorem test_openCode :
    openCode .session = some 0 ∧ openCode (.error (.invalidAddress 0x30)) = some 1 ∧
    openCode (.transportError 42) = none := by decide
/-- R276: the codes of the two DIAG records. -/
theorem test_diagCode : diagCode (.invalidSpeedLevel 9) = 4 ∧ diagCode (.writeDenied w29) = 5 := by decide
/-- V-O5: the reset state is what OPEN with the defaults makes. -/
theorem test_reset_is_open :
    (coreOf (.openSession ⟨⟨0, true⟩, none, none, none⟩) (withCore 0 { quiet with running := false }))
      = some State.reset.core := by decide

end Sys2Proof.Tests
end

