-- ==== Sys2Proof/Tests/Witnesses.lean ====
section
/-! SUPPORT. For every obligation with hypotheses, a concrete state and operands that meet all of them together; where an
obligation has clauses, one witness for each, at a boundary value of its range. -/

namespace Sys2Proof.Tests

open Sys2Proof.Machine

/-! ## Parameters -/

set_option maxRecDepth 20000 in
/-- T0 is a legal set of parameters (spec/95_test_vectors.md section 0). -/
theorem test_t0_legal : Params.t0.Legal := by decide

/-- A CMDQ one too small for the init burst. -/
def smallQueue : State := { start with params := { Params.t0 with cmdqCap := 17 } }

/-- A configuration on a transport handed over open. -/
def openOn (id : Nat) (a : Option Byte) : OpenConfig := ⟨⟨id, true⟩, a, none, none⟩

/-! ## Codec, translator, policy -/

/-- The query frame of V-C1, and the same bytes with a sixth one beside the right one. -/
theorem witness_WireFrameReachesTransport :
    ({ start with agenda := [.word (.wire 0x012711002962)] }).agenda
      = .word (.wire ((0x01 : Byte) ++ (0x27 : Byte) ++ (0x11 : Byte) ++ (0x00 : Byte) ++ (0x29 : Byte) ++ (0x62 : Byte)))
        :: [] ∧
    (0x63 : Byte).toNat ≠ ((0x01 : Byte).toNat + (0x27 : Byte).toNat + (0x11 : Byte).toNat + (0x00 : Byte).toNat
      + (0x29 : Byte).toNat) % 256 := by decide

theorem witness_ChecksumIsSumMod256 :
    List.Perm ([0x01, 0x27, 0x11, 0x00, 0xFF] : List Byte) [0xFF, 0x11, 0x27, 0x01, 0x00] := by decide

theorem witness_EncodeAppendsChecksumAndRoundTrips :
    exec (.decode w29) start = .next { start with ret := .frame w29 } := rfl

/-- One change for each of the six bytes, then a change of two bytes that keeps the sum (V-C10). -/
theorem witness_ChecksumDetectsOneByteChanges :
    valid w29 = true ∧
    ((0x00 : Byte) ≠ w29.system ∧ bytes6 0x00 0x27 0x11 0x29 0x07 0x69 = { w29 with system := 0x00 }) ∧
    ((0xFF : Byte) ≠ w29.source ∧ bytes6 0x01 0xFF 0x11 0x29 0x07 0x69 = { w29 with source := 0xFF }) ∧
    ((0x10 : Byte) ≠ w29.destination ∧ bytes6 0x01 0x27 0x10 0x29 0x07 0x69 = { w29 with destination := 0x10 }) ∧
    ((0x00 : Byte) ≠ w29.register ∧ bytes6 0x01 0x27 0x11 0x00 0x07 0x69 = { w29 with register := 0x00 }) ∧
    ((0x87 : Byte) ≠ w29.value ∧ bytes6 0x01 0x27 0x11 0x29 0x87 0x69 = { w29 with value := 0x87 }) ∧
    ((0x68 : Byte) ≠ w29.checksum ∧ bytes6 0x01 0x27 0x11 0x29 0x07 0x68 = { w29 with checksum := 0x68 }) ∧
    (bytes6 0x01 0x28 0x10 0x29 0x07 0x69).checksum = w29.checksum ∧
    (0x01 : Byte) + 0x28 + 0x10 + 0x29 + 0x07 = 0x01 + 0x27 + 0x11 + 0x29 + 0x07 := by decide

/-- The first and the last pattern, and a byte that is none. -/
theorem witness_LevelOfSpeedPattern :
    (0x01 : Byte).toNat = 2 ^ 1 - 1 ∧ (0xFF : Byte).toNat = 2 ^ 8 - 1 ∧
    (∀ n ∈ List.range 9, 1 ≤ n → (0xFE : Byte).toNat ≠ 2 ^ n - 1) ∧ retOf (.speedToValue 1) = some (.byte 0x01) ∧
    retOf (.speedToValue 8) = some (.byte 0xFF) := by decide

set_option maxRecDepth 20000 in
theorem witness_TemperatureIsTableEntry : start.params.tempLegal ∧ (0x00 : Byte).toNat ≤ (0xFF : Byte).toNat := by decide

set_option maxRecDepth 20000 in
theorem witness_KindOfRegister : start.params.regsLegal := by decide

/-- One register of each Kind. -/
theorem witness_TranslateFollowsKind :
    exec (.kindOf 0x29) start = .next { start with ret := .kind .fanSpeed } ∧
    exec (.kindOf 0xAE) start = .next { start with ret := .kind .rh } ∧
    exec (.kindOf 0xAF) start = .next { start with ret := .kind .temp } ∧
    exec (.kindOf 0x56) start = .next { start with ret := .kind .duty } ∧
    exec (.kindOf 0x00) start = .next { start with ret := .kind .byDefault } := ⟨rfl, rfl, rfl, rfl, rfl⟩

theorem witness_EventOfWindow :
    (scanning [0x01, 0x11, 0x21, 0x29, 0x0F, 0x6B]).core.rxPhase = .rxScan ∧
    valid (bytes6 0x01 0x11 0x21 0x29 0x0F 0x6B) = true ∧
    (scanning [0x01, 0x11, 0x21, 0x29, 0x0F, 0x6B]).core.rxbuf = frameBytes (bytes6 0x01 0x11 0x21 0x29 0x0F 0x6B) ++ [] := by
  decide

set_option maxRecDepth 20000 in
theorem witness_WriteAllowedTruthTable : start.params.regsLegal := by decide

/-! ## RX -/

theorem witness_LoopTopsTestRunning : start.core.rxPhase = .rxTop ∧ start.core.txPhase = .txTop := by decide

/-- An empty chunk, and a chunk of the greatest length. -/
theorem witness_RxReadAppendsChunk :
    (reading [.ok []]).core.rxPhase = .rxRead ∧
    nextRead (reading [.ok []]).params.rxChunkMax (reading [.ok []]).core.line = some (.ok [], []) ∧
    nextRead (some 2) [.ok [0x01, 0x11]] = some (.ok [0x01, 0x11], []) := by decide

/-- A further chunk; a loss of some bytes of a chunk, and of all of them. -/
theorem witness_ReadReturnsOldestBytes :
    ({ start with agenda := [.line (.offer (.ok [1]))] }).agenda = .line (.offer (.ok [1])) :: [] ∧
    (reading [.fail, .ok [1, 2, 3]]).core.line = [.fail] ++ .ok ([1] ++ [2] ++ [3]) :: [] ∧
    ({ reading [.fail, .ok [1, 2, 3]] with agenda := [.line (.lose 1 1 1)] }).agenda
      = .line (.lose ([.fail] : List Offer).length ([1] : List Byte).length ([2] : List Byte).length) :: [] ∧
    (reading [.ok [1, 2]]).core.line = [] ++ .ok ([] ++ [1, 2] ++ []) :: [] ∧
    ({ reading [.ok [1, 2]] with agenda := [.line (.lose 0 0 2)] }).agenda
      = .line (.lose ([] : List Offer).length ([] : List Byte).length ([1, 2] : List Byte).length) :: [] := by decide

/-- A failure that stands first; and a close while the read is pending. -/
theorem witness_RxReadFailureHalts :
    (reading [.fail, .ok [1]]).core.rxPhase = .rxRead ∧ (reading [.fail, .ok [1]]).core.line = .fail :: [.ok [1]] ∧
    ({ reading [] with agenda := [.line .close] }).agenda = .line .close :: [] := by decide

/-- The all-zero window, with nothing behind it. -/
theorem witness_RxAcceptConsumesSix :
    (scanning [0, 0, 0, 0, 0, 0]).core.rxPhase = .rxScan ∧
    (scanning [0, 0, 0, 0, 0, 0]).core.rxbuf = 0 :: 0 :: 0 :: 0 :: 0 :: 0 :: [] ∧
    (0 : Byte).toNat
      = ((0 : Byte).toNat + (0 : Byte).toNat + (0 : Byte).toNat + (0 : Byte).toNat + (0 : Byte).toNat) % 256 := by decide

theorem witness_RxSlipDiscardsOne :
    (scanning [0xFF, 0xFF, 0xFF, 0xFF, 0xFF, 0xFF]).core.rxPhase = .rxScan ∧
    (scanning [0xFF, 0xFF, 0xFF, 0xFF, 0xFF, 0xFF]).core.rxbuf = 0xFF :: 0xFF :: 0xFF :: 0xFF :: 0xFF :: 0xFF :: [] ∧
    (0xFF : Byte).toNat ≠ ((0xFF : Byte).toNat + (0xFF : Byte).toNat + (0xFF : Byte).toNat + (0xFF : Byte).toNat
      + (0xFF : Byte).toNat) % 256 := by decide

theorem witness_RxScanEndKeepsPartialBytes :
    (scanning [1, 2, 3, 4, 5]).core.rxPhase = .rxScan ∧ (scanning [1, 2, 3, 4, 5]).core.rxbuf.length < 6 := by decide

set_option maxRecDepth 4000 in
theorem witness_RxEnqueueAppendsEvent :
    (enqueuing 99).core.rxPhase = .rxEnq ∧ (enqueuing 99).core.evq.length < 100 := by decide

/-! ## TX -/

theorem witness_TxDequeueTakesOldest :
    (sending .txDeq 0 0 0 q29 [w29]).core.txPhase = .txDeq ∧ (sending .txDeq 0 0 0 q29 [w29]).core.cmdq = w29 :: [] := by
  decide

/-- A query, a denied write, and an allowed one with writing enabled. -/
theorem witness_GateDecidesOnRegisterByte :
    (sending .txGate 0 0 0 q29 []).core.txPhase = .txGate ∧ (sending .txGate 0 0 0 q29 []).core.txf.register = 0x00 ∧
    (sending .txGate 0 0 0 w29 []).core.txf.register ≠ 0x00 ∧ (sending .txGate 0 0 0 w29 []).core.writeEn ≠ true ∧
    (withCore 0 { quiet with txPhase := .txGate, writeEn := true, txf := w29 }).core.txf.register
      = Params.t0.regFanSpeedCurrent := by decide

theorem witness_TxGapCheckSetsDeadline : (sending .txGap 1049999 1000000 0 q29 []).core.txPhase = .txGap := by decide

/-- At the deadline itself. -/
theorem witness_TxStampWritesActivity :
    (sending .txWait 1050000 0 1050000 q29 []).core.txPhase = .txWait ∧
    (sending .txWait 1050000 0 1050000 q29 []).now ≥ (sending .txWait 1050000 0 1050000 q29 []).core.txDeadline := by decide

theorem witness_TxWriteSendsFrame : (sending .txWrite 0 0 0 q29 []).core.txPhase = .txWrite := by decide

/-! ## The host port -/

set_option maxRecDepth 4000 in
/-- One free slot. -/
theorem witness_QueryAndPushQueueOneFrame :
    (withCore 0 { quiet with cmdq := List.replicate 99 q29 }).core.cmdq.length < start.params.cmdqCap := by decide

/-- The two ends of the range of levels, and each of the three commands. -/
theorem witness_SpeedCommandPushesControllerFirst :
    (1 : Int) ≤ 1 ∧ (1 : Int) ≤ 8 ∧ (8 : Int) ≤ 8 ∧
    (Instr.setSpeed 1 = .setSpeed 1 ∧ (0x29 : Byte) = start.params.regFanSpeedCurrent) ∧
    (Instr.setDefaultFanSpeed 8 = .setDefaultFanSpeed 8 ∧ (0xA9 : Byte) = start.params.regFanSpeedDefault) ∧
    (Instr.setMaxFanSpeed 8 = .setMaxFanSpeed 8 ∧ (0xA5 : Byte) = start.params.regFanSpeedMax) := by decide

set_option maxRecDepth 4000 in
/-- Exactly two free slots. -/
theorem witness_SpeedCommandQueuesBothFrames :
    let s := { withCore 0 { quiet with cmdq := List.replicate 98 q29 } with agenda := [.call (.setSpeed 8), .caller 0] }
    (8 : Int) ≤ 8 ∧ (0x29 : Byte) = s.params.regFanSpeedCurrent ∧ s.core.cmdq.length + 2 ≤ s.params.cmdqCap ∧
      s.agenda = [.call (.setSpeed 8), .caller s.core.callers.length] := by decide

theorem witness_BadSpeedLevelQueuesNothing : ((0 : Int) < 1 ∨ (8 : Int) < 0) ∧ ((9 : Int) < 1 ∨ (8 : Int) < 9) := by decide

set_option maxRecDepth 4000 in
/-- A full CMDQ; a waiting caller whose turn it is; an empty EVQ. -/
theorem witness_HostWaitsForRoomOrEvents :
    start.params.cmdqCap ≤ (withCore 0 { quiet with cmdq := List.replicate 100 q29 }).core.cmdq.length ∧
    ({ withCore 0 { quiet with callers := [[p29]] } with agenda := [.caller 0] }).agenda = .caller 0 :: [] ∧
    (withCore 0 { quiet with callers := [[p29]] }).core.callers[0]? = some (p29 :: []) ∧ start.core.evq = [] := by decide

theorem witness_HostReadsEventsAndStatus :
    (withCore 0 { quiet with evq := [someEvent] }).core.evq = someEvent :: [] := by decide

/-- The ops at the two ends of the reserved range, and 0. -/
theorem witness_ReservedCommandChangesNothing :
    ((0x08 : Byte) = 0 ∨ 8 ≤ (0x08 : Byte).toNat) ∧ ((0xFF : Byte) = 0 ∨ 8 ≤ (0xFF : Byte).toNat) ∧
    ({ start with agenda := [.word (.host ((0x00 : Byte) ++ (0 : Byte) ++ (0 : Byte) ++ (0 : Byte)))] }).agenda
      = .word (.host ((0x00 : Byte) ++ (0 : Byte) ++ (0 : Byte) ++ (0 : Byte))) :: [] := by decide

/-! ## Reset -/

/-- CMDQ_CAP exactly N_CATALOG, and an empty CMDQ; a CMDQ of that capacity that is full; and an empty catalogue. -/
theorem witness_InitBurstQueuesCatalog :
    let s := { start with
      params := { Params.t0 with cmdqCap := 18 }, agenda := .call .sendInit :: List.replicate 17 (.caller 0) }
    s.core.cmdq.length + s.params.catalog.length ≤ s.params.cmdqCap ∧
      s.agenda = .call .sendInit :: List.replicate (18 - 1) (.caller s.core.callers.length) ∧
      s.core.cmdq.length < s.params.cmdqCap ∧ ¬(List.replicate 18 q29).length < s.params.cmdqCap ∧
      (s.params.catalog.map (buildQuery s.params s.core.clientAddr)).head? = some q29 ∧
      ({ s.params with catalog := [] } : Params).catalog.map (buildQuery s.params s.core.clientAddr) = [] := by decide

/-- Both ends of the address range, on a transport that nobody uses. -/
theorem witness_OpenMakesFreshSession :
    (0x20 : Byte) = (openOn 1 (some 0x20)).clientAddr.getD 0x27 ∧ 0x20 ≤ (0x20 : Byte).toNat ∧
    (0x2F : Byte) = (openOn 1 (some 0x2F)).clientAddr.getD 0x27 ∧ (0x2F : Byte).toNat ≤ 0x2F ∧
    (openOn 1 (some 0x20)).transport.isOpen = true ∧ start.openError 1 = none ∧
    start.transportTaken (openOn 1 none).transport.id = false ∧ start.params.catalog.length ≤ start.params.cmdqCap ∧
    (openWith none).transport.isOpen = false ∧ start.transportTaken (openWith none).transport.id = false ∧
    ({ start with agenda := [.line (.openFails 1 42)] }).agenda
      = .line (.openFails (openWith none).transport.id 42) :: [] ∧
    ({ start with agenda := [.line (.openWorks 1)] }).agenda = .line (.openWorks (openWith none).transport.id) :: [] := by
  decide

/-- The addresses next to the range; and a transport that fails. -/
theorem witness_FailedOpenChangesNothing :
    (0x1F : Byte) = (openWith (some 0x1F)).clientAddr.getD 0x27 ∧ (0x1F : Byte).toNat < 0x20 ∧
    (0x30 : Byte) = (openWith (some 0x30)).clientAddr.getD 0x27 ∧ 0x2F < (0x30 : Byte).toNat ∧
    (0x27 : Byte) = (openWith none).clientAddr.getD 0x27 ∧ (openWith none).transport.isOpen = false ∧
    ({ start with openErrors := [(1, 42)] }).openError (openWith none).transport.id = some 42 := by decide

/-- Transport 0 is in use by the quiet session; with room for 17 the burst of 18 does not fit. -/
theorem witness_OpenStopsOnSharedTransportOrSmallQueue :
    (0x27 : Byte) = (openOn 0 none).clientAddr.getD 0x27 ∧ 0x20 ≤ (0x27 : Byte).toNat ∧ (0x27 : Byte).toNat ≤ 0x2F ∧
    (openOn 0 none).transport.isOpen = true ∧ start.transportTaken (openOn 0 none).transport.id = true ∧
    smallQueue.transportTaken (openOn 1 none).transport.id = false ∧
    smallQueue.params.cmdqCap < smallQueue.params.catalog.length := by decide

/-! ## The step -/

/-- A turn of each kind. -/
theorem witness_StepRunsDecodedOperation :
    ({ start with agenda := [.word (.host 0x01350000)] }).agenda = .word (.host 0x01350000) :: [] ∧
    decode (.host 0x01350000) = .ok (.query 0x35) ∧
    ({ start with agenda := [.call .sendInit] }).agenda = .call .sendInit :: [] ∧
    ({ start with agenda := [.agent .tx] }).agenda = .agent .tx :: [] ∧
    ({ start with agenda := [.clock 0] }).agenda = .clock 0 :: [] ∧ start.agenda = [] ∧
    decode (.wire 0x012711002962) = .ok (.frameQuery 0x01 0x27 0x11 0x29 0x62) ∧
    ({ start with agenda := [.session 0], others := [quiet] }).others[0]? = some quiet ∧
    ({ start with agenda := [.session 0] }).agenda = .session 0 :: [] ∧ start.others[0]? = none ∧
    ({ start with agenda := [.word (.phase 0b00010000)] }).agenda = .word (.phase 0b00010000) :: [] ∧
    decode (.phase 0b00010000) = .error .noSuchStep ∧ (0b00000110 : BitVec 8).extractLsb' 0 3 = 0b110 ∧
    (0b11111111 : BitVec 8).extractLsb' 0 3 = 0b111 ∧
    decode (.phase 0b00010010) = .ok .rxScanEnd ∧ decode (.phase 0b00000101) = .ok .txWrite := by decide

theorem witness_SelectedStepIsTheEnabledOne :
    rxPhaseOf .rxTop ≠ none ∧ select .rx start = some .rxTop ∧ select .rx start ≠ some .rxEnq ∧
    txPhaseOf .txTop ≠ none ∧ select .tx start = some .txTop ∧ select .tx start ≠ some .txDeq := by decide

/-- The two ways a step can stop, and parameters with which no step faults. -/
theorem witness_OnlyOpenStops :
    start.params.catalog.length ≤ start.params.cmdqCap ∧
    step { smallQueue with agenda := [.call (.openSession (openOn 1 none))] } = .fault .openBlocked ∧
    step { start with agenda := [.call (.openSession (openOn 0 none))] } = .refused .sharedTransport :=
  ⟨by decide, rfl, rfl⟩

/-! ## Encodings -/

theorem witness_DecodeEncodeAgree :
    Instr.wellFormed (.setSpeed (-128)) = true ∧ encode (.setSpeed (-128)) = some (.host 0x02800000) := by decide

theorem witness_EncodeDecodeAgree :
    decode (.host 0x0135ABCD) = .ok (.query 0x35) ∧ decode (.phase 0) = .ok .rxTop ∧ CodeWord.phase 0 ≠ .host 0 := by decide

/-! ## Invariants: the reset state meets each, and a turn placed there has a next state -/

/-- The reset state with one turn placed. -/
def resetTurn (t : Turn) : State := { State.reset with agenda := [t] }

set_option maxRecDepth 20000 in
theorem witness_SoundSessionsStaySound :
    (resetTurn (.agent .rx)).eachSession (Session.Sound (resetTurn (.agent .rx)).params (resetTurn (.agent .rx)).now) ∧
    ∃ t, step (resetTurn (.agent .rx)) = .next t := ⟨by decide, _, rfl⟩

theorem witness_GateHoldsOnEveryStep :
    (resetTurn (.agent .tx)).eachSession (Session.Gated (resetTurn (.agent .tx)).params) ∧
    ∃ t, step (resetTurn (.agent .tx)) = .next t := ⟨by decide, _, rfl⟩

/-- TX at its deadline after an earlier stamp. -/
theorem witness_StampsStayFiftyMillisecondsApart :
    let s := { withCore 50000 { quiet with txPhase := .txWait, txDeadline := 50000, stamps := [0] } with agenda := [.agent .tx] }
    s.eachSession (Session.Paced s.now) ∧ ∃ t, step s = .next t := ⟨by decide, _, rfl⟩

set_option maxRecDepth 20000 in
theorem witness_HeldFramesAndEventsStayRight :
    (resetTurn (.agent .tx)).eachSession Session.FramesValid ∧ (resetTurn (.agent .tx)).params.regsLegal ∧
    (resetTurn (.agent .tx)).eachSession (Session.EventsTranslated (resetTurn (.agent .tx)).params) ∧
    ∃ t, step (resetTurn (.agent .tx)) = .next t := ⟨by decide, by decide, by decide, _, rfl⟩

/-! ## Rules of the whole machine -/

/-- An agent's turn stays in the session. -/
theorem staysInSession_agent (s : State) (a : Agent) (rest : List Turn) (h : s.agenda = .agent a :: rest) :
    s.staysInSession := by
  have hsel : ∀ (b : Agent) (u : State) (cfg : OpenConfig), select b u ≠ some (.openSession cfg) := by
    intro b u cfg
    cases b <;> simp only [select, rxSelect, txSelect] <;> (repeat' split) <;> simp
  refine ⟨fun k => by simp [takeTurn, h], fun cfg => ?_⟩
  simpa [fetch, takeTurn, h, resolve] using hsel a _ cfg

theorem witness_ConfigurationAndHistoryPersist :
    (resetTurn (.agent .tx)).staysInSession ∧ (∃ t, step (resetTurn (.agent .tx)) = .next t) ∧
    (resetTurn (.agent .tx)).core.lastActivity ≤ (resetTurn (.agent .tx)).now ∧
    (resetTurn (.agent .tx)).core.debugSink = .discard ∧
    let s := { withCore 0 { quiet with debugSink := .host 3, txPhase := .txGate, txf := w29 } with agenda := [.agent .tx] }
    s.staysInSession ∧ s.core.debugSink = .host 3 ∧ ∃ t, step s = .next t ∧ t.core.delivered = [.writeDenied w29] :=
  ⟨staysInSession_agent _ _ _ rfl, ⟨_, rfl⟩, by decide, rfl, staysInSession_agent _ _ _ rfl, rfl, _, rfl, rfl⟩

theorem witness_QueuesAreFirstInFirstOut :
    let s := { sending .txDeq 0 0 0 q29 [w29] with agenda := [.agent .tx] }
    s.staysInSession ∧ ∃ t, step s = .next t := ⟨staysInSession_agent _ _ _ rfl, _, rfl⟩

theorem witness_AtMostOneFrameAfterShutdown :
    let s := { withCore 0 { quiet with running := false, txPhase := .txWrite } with agenda := [.agent .tx] }
    s.core.running = false ∧ s.staysInSession ∧ ∃ t, step s = .next t := ⟨rfl, staysInSession_agent _ _ _ rfl, _, rfl⟩

theorem witness_LoopsOwnTheirPrivateCells :
    rxPhaseOf .rxReadFail ≠ none ∧ (∃ t, exec .rxReadFail (reading [.fail]) = .next t) ∧
    txPhaseOf .txWrite ≠ none ∧ ∃ t, exec .txWrite (sending .txWrite 0 0 0 q29 []) = .next t :=
  ⟨by decide, ⟨_, rfl⟩, by decide, _, rfl⟩

/-- Two states that differ in RXBUF, LAST_ACTIVITY, CMDQ, the phases, TXF and EVR. -/
theorem witness_HostCannotReadPrivateCells :
    let s₂ := withCore 9 { quiet with
      rxbuf := [1], lastActivity := 5, cmdq := [q29], rxPhase := .rxScan, txPhase := .txGap, txf := q29,
      evr := { someEvent with ts := 3 } }
    rxPhaseOf .status = none ∧ txPhaseOf .status = none ∧ (∀ cfg, Instr.status ≠ .openSession cfg) ∧
      start.params = s₂.params ∧ start.ret = s₂.ret ∧ start.core.clientAddr = s₂.core.clientAddr ∧
      start.core.writeEn = s₂.core.writeEn ∧ start.core.running = s₂.core.running ∧ start.core.evq = s₂.core.evq ∧
      (∃ t₁, exec .status start = .next t₁) ∧ ∃ t₂, exec .status s₂ = .next t₂ :=
  ⟨rfl, rfl, nofun, rfl, rfl, rfl, rfl, rfl, rfl, ⟨_, rfl⟩, _, rfl⟩

/-! ## The framing engine -/

set_option maxRecDepth 4000 in
/-- Two frames, and exactly two free places in EVQ. -/
theorem witness_RxTurnsComputeScan :
    let buf := [0x01, 0x11, 0x20, 0x29, 0x07, 0x62, 0x01, 0x11, 0x21, 0x2A, 0x66, 0xC3]
    let s := withCore 0 { quiet with rxPhase := .rxScan, rxbuf := buf, evq := List.replicate 98 someEvent }
    s.core.rxPhase = .rxScan ∧
      scan s.core.rxbuf = ([bytes6 0x01 0x11 0x20 0x29 0x07 0x62, bytes6 0x01 0x11 0x21 0x2A 0x66 0xC3], []) ∧
      s.core.evq.length + 2 ≤ 100 := by decide

theorem witness_ScanAccountsForEveryByte :
    scan [0xAA, 0x55, 0x00, 0x01, 0x11, 0x20, 0x29, 0x07, 0x62] = ([bytes6 0x01 0x11 0x20 0x29 0x07 0x62], []) := by decide

end Sys2Proof.Tests
end

section
/-! SUPPORT. Taking a turn and running what it comes to, one equation per kind of turn and of word, so that no proof
unfolds `step`, `fetch` or `withFetchWord` again. -/

namespace Sys2Proof.Machine

/-! ### The turn that is taken -/

@[simp] theorem takeTurn_params (s : State) : (takeTurn s).2.params = s.params := by
  rw [takeTurn_state]

@[simp] theorem takeTurn_core (s : State) : (takeTurn s).2.core = s.core := by
  rw [takeTurn_state]

@[simp] theorem takeTurn_others (s : State) : (takeTurn s).2.others = s.others := by
  rw [takeTurn_state]

@[simp] theorem takeTurn_transportTaken (s : State) (id : Nat) :
    (takeTurn s).2.transportTaken id = s.transportTaken id := by
  simp [State.transportTaken]

theorem fetch_cons {s : State} {t : Turn} {rest : List Turn} (h : s.agenda = t :: rest) :
    fetch s = resolve t { s with agenda := rest } := by
  rw [fetch, takeTurn_cons h]

/-- With no turn placed, the free schedule supplies one: as if it stood alone on the agenda. -/
theorem fetch_nil {s : State} (h : s.agenda = []) :
    fetch s = fetch { s with agenda := [Config.environment s.turn], turn := s.turn + 1 } := by
  obtain ⟨params, now, core, others, openErrors, ret, agenda, turn⟩ := s
  subst h
  rfl

/-- A turn that comes to an operation has changed nothing by itself. -/
theorem resolve_state_of_instr {t : Turn} {s : State} {i : Instr} (h : (resolve t s).instr = some i) :
    (resolve t s).state = s := by
  rcases resolve_cases t s with hs | ⟨hnone, -⟩
  · exact hs
  · rw [hnone] at h
    cases h

/-! ### The step -/

/-- Where the turn comes to an operation, the step is that operation. -/
theorem step_of_instr {s : State} {i : Instr} (h : (fetch s).instr = some i) : step s = exec i (takeTurn s).2 := by
  have hs : (fetch s).state = (takeTurn s).2 := resolve_state_of_instr h
  simp only [step, h, hs]

/-- Where the turn comes to no operation, it is the whole step. -/
theorem step_of_no_instr {s : State} (h : (fetch s).instr = none) : step s = .next (fetch s).state := by
  simp only [step, h]

/-- The step of a placed turn that comes to an operation. -/
theorem step_cons_of_instr {s : State} {t : Turn} {rest : List Turn} {i : Instr} (h : s.agenda = t :: rest)
    (hi : (resolve t { s with agenda := rest }).instr = some i) : step s = exec i { s with agenda := rest } := by
  rw [← fetch_cons h] at hi
  rw [step_of_instr hi, takeTurn_cons h]

/-- The step of a placed turn that comes to no operation. -/
theorem step_cons_of_no_instr {s : State} {t : Turn} {rest : List Turn} (h : s.agenda = t :: rest)
    (hi : (resolve t { s with agenda := rest }).instr = none) :
    step s = .next (resolve t { s with agenda := rest }).state := by
  rw [← fetch_cons h] at hi ⊢
  exact step_of_no_instr hi

theorem step_word {s : State} {w : CodeWord} {rest : List Turn} {i : Instr} (h : s.agenda = .word w :: rest)
    (hd : decode w = .ok i) : step s = exec i { s with agenda := rest } :=
  step_cons_of_instr h (by simp only [resolve, hd])

theorem step_rejected_word {s : State} {w : CodeWord} {rest : List Turn} {e : Reject} (h : s.agenda = .word w :: rest)
    (hd : decode w = .error e) : step s = .next (rejectWord w { s with agenda := rest }) := by
  rw [step_cons_of_no_instr h] <;> simp only [resolve, hd]

theorem step_call {s : State} {i : Instr} {rest : List Turn} (h : s.agenda = .call i :: rest) :
    step s = exec i { s with agenda := rest } :=
  step_cons_of_instr h rfl

theorem step_agent {s : State} {a : Agent} {rest : List Turn} {i : Instr} (h : s.agenda = .agent a :: rest)
    (hsel : select a { s with agenda := rest } = some i) : step s = exec i { s with agenda := rest } :=
  step_cons_of_instr h hsel

theorem step_blocked_agent {s : State} {a : Agent} {rest : List Turn} (h : s.agenda = .agent a :: rest)
    (hsel : select a { s with agenda := rest } = none) : step s = .next { s with agenda := rest } :=
  step_cons_of_no_instr h hsel

theorem step_clock {s : State} {d : Nat} {rest : List Turn} (h : s.agenda = .clock d :: rest) :
    step s = .next { s with agenda := rest, now := s.now + d } :=
  step_cons_of_no_instr h rfl

theorem step_session {s : State} {k : Nat} {rest : List Turn} (h : s.agenda = .session k :: rest) :
    step s = .next (switchSession k { s with agenda := rest }) :=
  step_cons_of_no_instr h rfl

theorem step_nil {s : State} (h : s.agenda = []) :
    step s = step { s with agenda := [Config.environment s.turn], turn := s.turn + 1 } := by
  rw [step, fetch_nil h, step]

/-! ### Choosing a session -/

theorem switchSession_some {k : Nat} {s : State} {c : Session} (h : s.others[k]? = some c) :
    switchSession k s = { s with core := c, others := s.others.set k s.core } := by
  simp only [switchSession, h]

theorem switchSession_none {k : Nat} {s : State} (h : s.others[k]? = none) : switchSession k s = s := by
  simp only [switchSession, h]

/-! ### Step codes -/

/-- The row of a step word is among those of the word's phase code. -/
theorem mem_phaseRows_of_decode {w : BitVec 8} {i : Instr} (h : decode (.phase w) = .ok i) :
    i ∈ phaseRows (w.extractLsb' 0 3) := by
  simp only [decode, decodePhase] at h
  split at h <;> cases h
  exact List.mem_of_getElem? ‹_›

/-- A phase code without rows has no step word. -/
theorem decode_phase_of_no_rows {w : BitVec 8} (h : phaseRows (w.extractLsb' 0 3) = []) :
    decode (.phase w) = .error .noSuchStep := by
  simp [decode, decodePhase, h]

/-- A row with phase code `code` belongs to exactly one agent, and `code` is the code of the phase it names there. -/
theorem phaseOf_of_mem_phaseRows (code : BitVec 3) : ∀ i ∈ phaseRows code,
    ((rxPhaseOf i).map rxPhaseCode = some code ∧ txPhaseOf i = none) ∨
      (rxPhaseOf i = none ∧ (txPhaseOf i).map txPhaseCode = some code) := by
  revert code
  decide

theorem enterPhase_rx {i : Instr} {p : RxPhase} (hrx : rxPhaseOf i = some p) (htx : txPhaseOf i = none) (c : Session) :
    enterPhase i c = { c with rxPhase := p } := by
  simp [enterPhase, hrx, htx]

theorem enterPhase_tx {i : Instr} {p : TxPhase} (hrx : rxPhaseOf i = none) (htx : txPhaseOf i = some p) (c : Session) :
    enterPhase i c = { c with txPhase := p } := by
  simp [enterPhase, hrx, htx]

/-! ### Placed words -/

theorem codeWordOf_phase (w : BitVec 8) : codeWordOf 8 w.toNat = some (.phase w) := by
  simp [codeWordOf]

theorem codeWordOf_host (w : BitVec 32) : codeWordOf 32 w.toNat = some (.host w) := by
  simp [codeWordOf]

theorem codeWordOf_wire (w : BitVec 48) : codeWordOf 48 w.toNat = some (.wire w) := by
  simp [codeWordOf]

/-- A placed host word runs next, in the state as it was. -/
theorem step_withFetchWord_host {w : BitVec 32} {i : Instr} (hd : decode (.host w) = .ok i) (s : State) :
    step (s.withFetchWord 32 w.toNat) = exec i s := by
  have hp : s.withFetchWord 32 w.toNat = { s with agenda := .word (.host w) :: s.agenda } := by
    simp only [State.withFetchWord, codeWordOf_host, placeWord]
  rw [hp]
  exact step_word rfl hd

/-- A placed frame runs next, in the state as it was. -/
theorem step_withFetchWord_wire {w : BitVec 48} {i : Instr} (hd : decode (.wire w) = .ok i) (s : State) :
    step (s.withFetchWord 48 w.toNat) = exec i s := by
  have hp : s.withFetchWord 48 w.toNat = { s with agenda := .word (.wire w) :: s.agenda } := by
    simp only [State.withFetchWord, codeWordOf_wire, placeWord]
  rw [hp]
  exact step_word rfl hd

/-- A placed step runs next, in the phase that its row names. -/
theorem step_withFetchWord_phase {w : BitVec 8} {i : Instr} (hd : decode (.phase w) = .ok i) (s : State) :
    step (s.withFetchWord 8 w.toNat) = exec i (s.onCore (enterPhase i)) := by
  have hp : s.withFetchWord 8 w.toNat = { s.onCore (enterPhase i) with agenda := .word (.phase w) :: s.agenda } := by
    simp only [State.withFetchWord, codeWordOf_phase, placeWord, hd, State.onCore]
  rw [hp]
  exact step_word rfl hd

/-- Settles O42: one equation per kind of turn, and for a placed step the one agent whose phase its row names. -/
theorem stepRunsDecodedOperation : Obligations.StepRunsDecodedOperation := by
  refine ⟨fun s w i rest h hd => step_word h hd, fun s i rest h => step_call h, fun s a rest h => ?agent,
    fun s d rest h => step_clock h, fun s k rest h => ⟨fun c hc => ?switch, fun hk => ?stay⟩,
    fun s w rest h => ⟨fun e hd => step_rejected_word h hd, fun hcode => ?noRow⟩, fun s h => step_nil h,
    fun s w i hd => step_withFetchWord_host hd s, fun s w i hd => step_withFetchWord_wire hd s,
    fun s w i hd => ?phase⟩
  case agent =>
    cases hsel : select a { s with agenda := rest } with
    | some i => exact step_agent h hsel
    | none => exact step_blocked_agent h hsel
  case switch => rw [step_session h, switchSession_some (s := { s with agenda := rest }) hc]
  case stay => rw [step_session h, switchSession_none (s := { s with agenda := rest }) hk]
  case noRow => exact decode_phase_of_no_rows (by rcases hcode with hcode | hcode <;> rw [hcode] <;> rfl)
  case phase =>
    rw [step_withFetchWord_phase hd]
    rcases phaseOf_of_mem_phaseRows _ i (mem_phaseRows_of_decode hd) with ⟨hrx, htx⟩ | ⟨hrx, htx⟩
    · obtain ⟨p, hp, hcode⟩ := Option.map_eq_some_iff.1 hrx
      exact .inl ⟨p, hp, htx, hcode, by rw [State.onCore, enterPhase_rx hp htx]⟩
    · obtain ⟨p, hp, hcode⟩ := Option.map_eq_some_iff.1 htx
      exact .inr ⟨p, hp, hrx, hcode, by rw [State.onCore, enterPhase_tx hrx hp]⟩

end Sys2Proof.Machine
end

section
/-! SUPPORT. Where a step stops: every operation but OPEN has a next state, and OPEN's two stops have one cause each. -/

namespace Sys2Proof.Machine

/-! ### Operations with a next state -/

/-- A speed command records a bad level or makes a call; it does not stop. -/
theorem speedCommand_completes (reg : Byte) (n : Int) (s : State) : ∃ t, speedCommand reg n s = .next t := by
  unfold speedCommand
  split <;> exact ⟨_, rfl⟩

/-- Every operation other than OPEN has a next state, in every state. -/
theorem exec_completes {i : Instr} (hi : ∀ cfg, i ≠ .openSession cfg) (s : State) : ∃ t, exec i s = .next t := by
  cases i with
  | openSession cfg => exact absurd rfl (hi cfg)
  | frameQuery | frameData | checksum | encode | valueToSpeed | valueToRh | valueToTemp | valueToDuty | valueRaw | kindOf
  | translate | mkEvent | isWriteAllowed | buildQuery | buildWrite | forMe | query | cmdPush | status | reservedCmd
  | sendInit => exact ⟨_, rfl⟩
  | decode | speedToValue | evPop =>
    simp only [exec, execDecode, execSpeedToValue, execEvPop]
    split <;> exact ⟨_, rfl⟩
  | setSpeed | setDefaultFanSpeed | setMaxFanSpeed => exact speedCommand_completes _ _ s
  | rxTop | rxScanEnd | rxEnq | txTop | txGatePass | txGateDeny | txGapchk | txStamp | txWrite =>
    exact fire_completes _ _ _
  | rxReadOk | rxReadFail | rxAccept | rxSlip | txDeq =>
    simp only [exec, execRxReadOk, execRxReadFail, execRxAccept, execRxSlip, execTxDeq]
    split
    · exact fire_completes _ _ _
    · exact ⟨_, rfl⟩

/-! ### OPEN -/

/-- The init burst leaves no frame behind exactly when the new session's CMDQ has room for the catalogue. -/
theorem sendInit_configured_rest (s : State) (cfg : OpenConfig) :
    ((configured s cfg).sendInit s.params).2 = [] ↔ s.params.catalog.length ≤ s.params.cmdqCap := by
  simp [Session.sendInit, Session.pushAll_eq, configured, newSession, initQueries]

/-- OPEN answers with a next state, or is refused on a transport in use, or never returns because the burst does not
fit. -/
theorem execOpenSession_outcomes (cfg : OpenConfig) (s : State) :
    (∃ t, execOpenSession cfg s = .next t) ∨
    (execOpenSession cfg s = .refused .sharedTransport ∧ s.transportTaken cfg.transport.id = true) ∨
    (execOpenSession cfg s = .fault .openBlocked ∧ s.params.cmdqCap < s.params.catalog.length) := by
  have hrest := sendInit_configured_rest s cfg
  unfold execOpenSession
  split
  · split
    · exact .inl ⟨_, rfl⟩
    · split
      · exact .inr (.inl ⟨rfl, ‹_›⟩)
      · split
        · exact .inl ⟨_, rfl⟩
        · rename_i heq
          rw [heq] at hrest
          exact .inr (.inr ⟨rfl, by simpa using hrest⟩)
  · exact .inl ⟨_, rfl⟩

/-! ### The step -/

/-- Everything a step can answer: a next state; or, inside OPEN alone, the refusal of a transport in use or the fault of
a burst that does not fit. -/
theorem step_outcomes (s : State) :
    (∃ t, step s = .next t) ∨
    ∃ cfg, (fetch s).instr = some (.openSession cfg) ∧
      ((step s = .refused .sharedTransport ∧ s.transportTaken cfg.transport.id = true) ∨
        (step s = .fault .openBlocked ∧ s.params.cmdqCap < s.params.catalog.length)) := by
  cases hi : (fetch s).instr with
  | none => exact .inl ⟨_, step_of_no_instr hi⟩
  | some i =>
    rw [step_of_instr hi]
    by_cases hopen : ∃ cfg, i = .openSession cfg
    · obtain ⟨cfg, rfl⟩ := hopen
      have hout := execOpenSession_outcomes cfg (takeTurn s).2
      simp only [takeTurn_transportTaken, takeTurn_params] at hout
      exact hout.imp_right fun hstop => ⟨cfg, rfl, hstop⟩
    · exact .inl (exec_completes (fun cfg hcfg => hopen ⟨cfg, hcfg⟩) _)

/-- Settles O44: each clause reads off one of the outcomes of a step. -/
theorem onlyOpenStops : Obligations.OnlyOpenStops := by
  intro s
  have faulted : ∀ r, step s = .fault r → r = .openBlocked ∧ s.params.cmdqCap < s.params.catalog.length ∧
      ∃ cfg, (fetch s).instr = some (.openSession cfg) := by
    intro r hr
    rcases step_outcomes s with ⟨t, ht⟩ | ⟨cfg, hcfg, ⟨hq, -⟩ | ⟨hf, hcap⟩⟩
    · cases hr.symm.trans ht
    · cases hr.symm.trans hq
    · cases hr.symm.trans hf
      exact ⟨rfl, hcap, cfg, hcfg⟩
  refine ⟨fun hcap r hr => ?_, faulted, fun q hq => ?_⟩
  · obtain ⟨-, hlt, -⟩ := faulted r hr
    omega
  · rcases step_outcomes s with ⟨t, ht⟩ | ⟨cfg, hcfg, ⟨hr, htaken⟩ | ⟨hf, -⟩⟩
    · cases hq.symm.trans ht
    · cases hq.symm.trans hr
      exact ⟨rfl, cfg, hcfg, htaken⟩
    · cases hq.symm.trans hf

end Sys2Proof.Machine
end

section
/-! SUPPORT. What the calls of the host port and the callers' turns do to a session, said once: they move frames into
CMDQ and among the waiting callers and touch no other cell. -/

namespace Sys2Proof.Machine

variable {cap : Nat} {new : List Frame} {c c' : Session}

/-- A frame that stands in CMDQ or that a waiting caller has still to push. -/
def Session.queued (c : Session) (f : Frame) : Prop :=
  f ∈ c.cmdq ∨ ∃ call ∈ c.callers, f ∈ call

/-- `c'` is `c` but for CMDQ and the waiting callers: CMDQ does not outgrow its capacity, and every frame queued there
was queued before or is one of `new`. -/
def Session.Queues (cap : Nat) (new : List Frame) (c c' : Session) : Prop :=
  ∃ cmdq callers, c' = { c with cmdq := cmdq, callers := callers } ∧
    (c.cmdq.length ≤ cap → cmdq.length ≤ cap) ∧ ∀ f, c'.queued f → c.queued f ∨ f ∈ new

theorem Session.call_queues (c : Session) (cap : Nat) (fs : List Frame) : Session.Queues cap fs c (c.call cap fs) := by
  have hcallers : ∀ ws : List Frame, (∀ f ∈ ws, f ∈ fs) → ∀ f, (∃ call ∈ c.callers ++ [ws], f ∈ call) →
      c.queued f ∨ f ∈ fs := by
    rintro ws hws f ⟨call, hcall, hf⟩
    rcases List.mem_append.1 hcall with hcall | hcall
    · exact .inl (.inr ⟨call, hcall, hf⟩)
    · rw [List.mem_singleton.1 hcall] at hf
      exact .inr (hws f hf)
  rcases c.call_cases cap fs with ⟨-, e⟩ | ⟨-, -, e⟩ | ⟨f, rest, rfl, hroom, e⟩
  · exact ⟨c.cmdq, c.callers, e, id, fun f hf => .inl (by rwa [e] at hf)⟩
  · refine ⟨c.cmdq, _, e, id, ?_⟩
    rw [e]
    rintro g (hg | hg)
    · exact .inl (.inl hg)
    · exact hcallers fs (fun _ h => h) g hg
  · have hpush : ∀ g ∈ c.cmdq ++ [f], c.queued g ∨ g ∈ f :: rest := by
      intro g hg
      rcases List.mem_append.1 hg with hg | hg
      · exact .inl (.inl hg)
      · exact .inr (List.mem_cons.2 (.inl (List.mem_singleton.1 hg)))
    rcases (c.cmdqPush f).park_cases rest with ⟨-, e'⟩ | ⟨-, e'⟩ <;> rw [e'] at e
    · refine ⟨c.cmdq ++ [f], c.callers, e, fun _ => by simpa using hroom, ?_⟩
      rw [e]
      rintro g (hg | hg)
      · exact hpush g hg
      · exact .inl (.inr hg)
    · refine ⟨c.cmdq ++ [f], c.callers ++ [rest], e, fun _ => by simpa using hroom, ?_⟩
      rw [e]
      rintro g (hg | hg)
      · exact hpush g hg
      · exact hcallers rest (fun _ => List.mem_cons_of_mem f) g hg

theorem Session.resume_queues (c : Session) (cap k : Nat) : Session.Queues cap [] c (c.resume cap k) := by
  rcases c.resume_cases cap k with e | ⟨f, fs, hk, hroom, e⟩
  · exact ⟨c.cmdq, c.callers, e, id, fun f hf => .inl (by rwa [e] at hf)⟩
  · have hmem : (f :: fs) ∈ c.callers := List.mem_of_getElem? hk
    refine ⟨_, _, e, fun _ => by simpa using hroom, ?_⟩
    rw [e]
    rintro g (hg | ⟨call, hcall, hg⟩)
    · rcases List.mem_append.1 hg with hg | hg
      · exact .inl (.inl hg)
      · exact .inl (.inr ⟨f :: fs, hmem, List.mem_cons.2 (.inl (List.mem_singleton.1 hg))⟩)
    · dsimp only at hcall
      split at hcall
      · exact .inl (.inr ⟨call, List.mem_of_mem_eraseIdx hcall, hg⟩)
      · rcases List.mem_or_eq_of_mem_set hcall with hcall | rfl
        · exact .inl (.inr ⟨call, hcall, hg⟩)
        · exact .inl (.inr ⟨f :: call, hmem, List.mem_cons_of_mem f hg⟩)

end Sys2Proof.Machine
end

section
/-! SUPPORT. The bounds, phases, clock and address invariants of spec/10_state.md R51: every change of a session keeps
them, and so does every step. -/

namespace Sys2Proof.Machine

variable {p : Params} {now : Nat} {c c' : Session}

/-- Queueing frames touches one clause of R51 only, the bound of CMDQ. -/
theorem Session.Queues.keeps_sound {new : List Frame} (hq : Session.Queues p.cmdqCap new c c')
    (h : c.Sound p now) : c'.Sound p now := by
  obtain ⟨cmdq, callers, rfl, hroom, -⟩ := hq
  obtain ⟨hevq, hcmdq, hlast, hbuf, hrun, haddr⟩ := h
  exact ⟨hevq, hroom hcmdq, hlast, hbuf, hrun, haddr⟩

/-- RX at the top of its loop or in a read has not halted, so RUNNING has not fallen. -/
theorem Session.running_of_not_halted (hrun : c.running = false ↔ c.rxPhase = .rxHalt) (h : c.rxPhase ≠ .rxHalt) :
    c.running = true := by
  simpa using mt hrun.1 h

/-- Every change of a session keeps R51. A change of TX's own cells touches no clause of it; the others touch the
clauses that are proved anew in their case. -/
theorem CoreChange.keeps_sound (hc : CoreChange p now c c') (h : c.Sound p now) : c'.Sound p now := by
  have ⟨hevq, hcmdq, hlast, hbuf, hrun, haddr⟩ := h
  /- Where RX moves between two phases other than RX_HALT, RUNNING stays raised. -/
  have running_iff : ∀ ph : RxPhase, c.rxPhase ≠ .rxHalt → ph ≠ .rxHalt → (c.running = false ↔ ph = .rxHalt) := by
    intro ph hold hnew
    simp [Session.running_of_not_halted hrun hold, hnew]
  cases hc with
  | same => exact h
  | rxTop hph =>
    have hr := Session.running_of_not_halted hrun (by simp [hph])
    rw [if_pos hr]
    exact ⟨hevq, hcmdq, hlast, fun _ => hbuf (.inl hph), running_iff _ (by simp [hph]) (by simp), haddr⟩
  | rxReadOk bytes rest hph hr =>
    refine ⟨hevq, hcmdq, Nat.le_refl now, ?_, running_iff _ (by simp [hph]) (by split <;> simp), haddr⟩
    cases bytes with
    | nil => simpa using hbuf (.inr hph)
    | cons b bs => simp
  | rxReadFail rest hph hr => exact ⟨hevq, hcmdq, hlast, by simp, by simp, haddr⟩
  | rxAccept w hph hw hv =>
    exact ⟨hevq, hcmdq, hlast, by simp, running_iff _ (by simp [hph]) (by simp), haddr⟩
  | rxSlip w hph hw hv =>
    exact ⟨hevq, hcmdq, hlast, by simp, running_iff _ (by simp [hph]) (by simp), haddr⟩
  | rxScanEnd hph hl =>
    exact ⟨hevq, hcmdq, hlast, fun _ => Nat.le_of_lt_succ hl, running_iff _ (by simp [hph]) (by simp), haddr⟩
  | rxEnq hph hl =>
    exact ⟨by simpa using hl, hcmdq, hlast, by simp, running_iff _ (by simp [hph]) (by simp), haddr⟩
  | txDeq f rest hph hq =>
    have hrest : rest.length ≤ c.cmdq.length := by simp [hq]
    exact ⟨hevq, hrest.trans hcmdq, hlast, hbuf, hrun, haddr⟩
  | txStamp => exact ⟨hevq, hcmdq, Nat.le_refl now, hbuf, hrun, haddr⟩
  | txTop | txGatePass | txGateDeny | txGapchk | txWrite | badLevel | line =>
    exact ⟨hevq, hcmdq, hlast, hbuf, hrun, haddr⟩
  | call frames hv => exact (c.call_queues p.cmdqCap frames).keeps_sound h
  | resume k => exact (c.resume_queues p.cmdqCap k).keeps_sound h
  | evPop e rest hq =>
    have hrest : rest.length ≤ c.evq.length := by simp [hq]
    exact ⟨hrest.trans hevq, hcmdq, hlast, hbuf, hrun, haddr⟩

/-- The session that a successful OPEN makes: the init burst stands in CMDQ (spec/70_reset_and_hazards.md R310). -/
def openedSession (s : State) (cfg : OpenConfig) : Session :=
  { configured s cfg with cmdq := initQueries s.params (cfgClientAddr cfg) }

theorem openedSession_sound {s : State} {cfg : OpenConfig} (ha : addrInRange (cfgClientAddr cfg) = true)
    (hl : s.params.catalog.length ≤ s.params.cmdqCap) : (openedSession s cfg).Sound s.params s.now := by
  have hcmdq : (initQueries s.params (cfgClientAddr cfg)).length ≤ s.params.cmdqCap := by simpa [initQueries] using hl
  exact ⟨Nat.zero_le _, hcmdq, Nat.min_le_right _ _, fun _ => Nat.zero_le _,
    by simp [openedSession, configured, newSession], ha⟩

/-- Settles O48: every change of a session keeps R51, a later clock keeps it, and OPEN makes a session that meets it. -/
theorem soundSessionsStaySound : Obligations.SoundSessionsStaySound := by
  intro s t hs hstep
  refine step_keeps_eachSession (P := Session.Sound) ?_ ?_ ?_ hs hstep
  · exact fun _ _ _ _ h hc => hc.keeps_sound h
  · rintro p now now' c hle ⟨hevq, hcmdq, hlast, hrest⟩
    exact ⟨hevq, hcmdq, hlast.trans hle, hrest⟩
  · exact fun _ => openedSession_sound

end Sys2Proof.Machine
end

section
/-! SUPPORT. Every frame that CORE holds is valid, and every event it holds is translated (spec/10_state.md R23;
spec/43_session.md R194): every change of a session keeps both, and so does every step. -/

namespace Sys2Proof.Machine

variable {p : Params} {now : Nat} {c c' : Session}

/-! ### Frames -/

/-- The frames queued in CMDQ and with the callers are valid together. -/
theorem Session.framesValid_iff :
    c.FramesValid ↔ (∀ f, c.queued f → valid f = true) ∧ valid c.txf = true ∧ ∀ r ∈ c.wireOut, valid r.2 = true := by
  constructor
  · rintro ⟨hcmdq, hcallers, htxf, hwire⟩
    refine ⟨?_, htxf, hwire⟩
    rintro f (hf | ⟨call, hcall, hf⟩)
    · exact hcmdq f hf
    · exact hcallers call hcall f hf
  · rintro ⟨hqueued, htxf, hwire⟩
    exact ⟨fun f hf => hqueued f (.inl hf), fun call hcall f hf => hqueued f (.inr ⟨call, hcall, hf⟩), htxf, hwire⟩

theorem Session.Queues.keeps_framesValid {cap : Nat} {new : List Frame} (hq : Session.Queues cap new c c')
    (hnew : ∀ f ∈ new, valid f = true) (h : c.FramesValid) : c'.FramesValid := by
  obtain ⟨hqueued, htxf, hwire⟩ := Session.framesValid_iff.1 h
  obtain ⟨cmdq, callers, rfl, -, horigin⟩ := hq
  refine Session.framesValid_iff.2 ⟨fun f hf => ?_, htxf, hwire⟩
  rcases horigin f hf with hf | hf
  · exact hqueued f hf
  · exact hnew f hf

/-- Every change of a session keeps its frames valid: TX.DEQ takes a queued frame, TX.WRITE sends the one in hand, and
only calls bring new frames, all of them built by the builders. -/
theorem CoreChange.keeps_framesValid (hc : CoreChange p now c c') (h : c.FramesValid) : c'.FramesValid := by
  have ⟨hcmdq, hcallers, htxf, hwire⟩ := h
  cases hc with
  | txDeq f rest hph hq =>
    rw [hq] at hcmdq
    obtain ⟨hf, hrest⟩ := List.forall_mem_cons.1 hcmdq
    exact ⟨hrest, hcallers, hf, hwire⟩
  | txWrite hph =>
    refine ⟨hcmdq, hcallers, htxf, fun r hr => ?_⟩
    rcases List.mem_append.1 hr with hr | hr
    · exact hwire r hr
    · rw [List.mem_singleton.1 hr]
      exact htxf
  | call frames hv => exact (c.call_queues p.cmdqCap frames).keeps_framesValid hv h
  | resume k => exact (c.resume_queues p.cmdqCap k).keeps_framesValid (by simp) h
  | same | rxTop | rxReadOk | rxReadFail | rxAccept | rxSlip | rxScanEnd | rxEnq | txTop | txGatePass | txGateDeny
  | txGapchk | txStamp | badLevel | evPop | line => exact ⟨hcmdq, hcallers, htxf, hwire⟩

/-- OPEN queues the init burst; its TXF is six zero bytes, whose checksum is zero (notes/assumptions/5.md). -/
theorem openedSession_framesValid (s : State) (cfg : OpenConfig) : (openedSession s cfg).FramesValid :=
  ⟨fun _ => valid_of_mem_initQueries, by simp [openedSession, configured, newSession], rfl,
    by simp [openedSession, configured, newSession]⟩

/-! ### Events -/

theorem Session.Queues.keeps_eventsTranslated {cap : Nat} {new : List Frame} (hq : Session.Queues cap new c c')
    (h : c.EventsTranslated p) : c'.EventsTranslated p := by
  obtain ⟨cmdq, callers, rfl, -, -⟩ := hq
  exact h

/-- Every change of a session keeps its events translated: RX.ACCEPT makes EVR by MK_EVENT, RX.ENQ moves EVR to EVQ, and
EV_POP only takes an event away. -/
theorem CoreChange.keeps_eventsTranslated (hc : CoreChange p now c c') (h : c.EventsTranslated p) :
    c'.EventsTranslated p := by
  have ⟨hevr, hevq⟩ := h
  cases hc with
  | rxAccept w hph hw hv => exact ⟨rfl, hevq⟩
  | rxEnq hph hl =>
    refine ⟨hevr, fun e he => ?_⟩
    rcases List.mem_append.1 he with he | he
    · exact hevq e he
    · rw [List.mem_singleton.1 he]
      exact hevr
  | evPop e rest hq =>
    rw [hq] at hevq
    exact ⟨hevr, (List.forall_mem_cons.1 hevq).2⟩
  | call frames hv => exact (c.call_queues p.cmdqCap frames).keeps_eventsTranslated h
  | resume k => exact (c.resume_queues p.cmdqCap k).keeps_eventsTranslated h
  | same | rxTop | rxReadOk | rxReadFail | rxSlip | rxScanEnd | txTop | txDeq | txGatePass | txGateDeny | txGapchk
  | txStamp | txWrite | badLevel | line => exact ⟨hevr, hevq⟩

/-- A register that no role names has the default kind (spec/41_translator.md R141). -/
theorem kindOf_of_not_named {r : Byte} (h : r ∉ p.namedRegs) : kindOf p r = .byDefault := by
  simp only [Params.namedRegs, List.mem_cons, List.not_mem_nil, not_or] at h
  simp [kindOf, h]

theorem translate_zero (h : p.regsLegal) (v : Byte) : translate p 0 v = .int (valueRaw v) := by
  obtain ⟨-, hzero, -⟩ := h
  simp only [translate, kindOf_of_not_named hzero]

/-- The zero event of a fresh session is the translated event of a zero window (notes/assumptions/5.md). -/
theorem openedSession_eventsTranslated {s : State} (h : s.params.regsLegal) (cfg : OpenConfig) :
    (openedSession s cfg).EventsTranslated s.params :=
  ⟨(translate_zero h 0).symm,
    by simp [openedSession, configured, newSession]⟩

/-! ### The step -/

theorem step_params {s t : State} (h : step s = .next t) : t.params = s.params := by
  rcases step_cases h with ⟨-, hp, -⟩ | ⟨-, -, -, -, -, -, hp, -⟩ | ⟨-, -, -, -, -, -, hp, -⟩ <;> exact hp

/-- Settles O51: every change of a session keeps both properties, and the session that OPEN makes has both. -/
theorem heldFramesAndEventsStayRight : Obligations.HeldFramesAndEventsStayRight := by
  intro s t hstep
  refine ⟨fun hs => ?frames, fun hlegal hs => ⟨step_params hstep, ?events⟩⟩
  case frames =>
    exact step_keeps_eachSession (P := fun _ _ c => c.FramesValid) (fun _ _ _ _ h hc => hc.keeps_framesValid h)
      (fun _ _ _ _ _ h => h) (fun cfg _ _ => openedSession_framesValid s cfg) hs hstep
  case events =>
    exact step_keeps_eachSession (P := fun p _ c => c.EventsTranslated p)
      (fun _ _ _ _ h hc => hc.keeps_eventsTranslated h) (fun _ _ _ _ _ h => h)
      (fun cfg _ _ => openedSession_eventsTranslated hlegal cfg) hs hstep

end Sys2Proof.Machine
end

section
/-! SUPPORT. The steps of an agent: the phase and the guards select the one that is enabled (spec/10_state.md R25, R26),
and that one alone changes the state. -/

namespace Sys2Proof.Machine

variable {s : State} {i : Instr} {a : Agent}

/-! ### When each step is selected (spec/10_state.md R25, R26) -/

theorem winReady_iff {c : Session} : c.winReady = true ↔ ∃ w, window c.rxbuf = some w := by
  rw [Session.winReady, decide_eq_true_eq, ← Option.ne_none_iff_exists', ne_eq, window_eq_none_iff, Nat.not_lt]

theorem winValid_of_window {c : Session} {w : Frame} (h : window c.rxbuf = some w) : c.winValid = valid w := by
  simp only [Session.winValid, h]

theorem rxSelect_rxTop : rxSelect s = some .rxTop ↔ s.core.rxPhase = .rxTop := by
  unfold rxSelect
  grind

theorem rxSelect_rxReadOk : rxSelect s = some .rxReadOk ↔
    s.core.rxPhase = .rxRead ∧ ∃ bytes rest, nextRead s.params.rxChunkMax s.core.line = some (.ok bytes, rest) := by
  unfold rxSelect
  grind

theorem rxSelect_rxReadFail : rxSelect s = some .rxReadFail ↔
    s.core.rxPhase = .rxRead ∧ ∃ rest, nextRead s.params.rxChunkMax s.core.line = some (.fail, rest) := by
  unfold rxSelect
  grind

theorem rxSelect_rxAccept : rxSelect s = some .rxAccept ↔
    s.core.rxPhase = .rxScan ∧ ∃ w, window s.core.rxbuf = some w ∧ valid w = true := by
  unfold rxSelect
  grind [winReady_iff, winValid_of_window]

theorem rxSelect_rxSlip : rxSelect s = some .rxSlip ↔
    s.core.rxPhase = .rxScan ∧ ∃ w, window s.core.rxbuf = some w ∧ valid w = false := by
  unfold rxSelect
  grind [winReady_iff, winValid_of_window]

theorem rxSelect_rxScanEnd : rxSelect s = some .rxScanEnd ↔
    s.core.rxPhase = .rxScan ∧ s.core.winReady = false := by
  unfold rxSelect
  grind

theorem rxSelect_rxEnq : rxSelect s = some .rxEnq ↔ s.core.rxPhase = .rxEnq ∧ s.core.evqFull = false := by
  unfold rxSelect
  grind

/-- RX selects a row of the phase it is in (spec/10_state.md R25). -/
theorem rxPhaseOf_of_rxSelect (h : rxSelect s = some i) : rxPhaseOf i = some s.core.rxPhase := by
  unfold rxSelect at h
  grind [rxPhaseOf]

theorem txSelect_txTop : txSelect s = some .txTop ↔ s.core.txPhase = .txTop := by
  unfold txSelect
  grind

theorem txSelect_txDeq : txSelect s = some .txDeq ↔ s.core.txPhase = .txDeq ∧ ∃ f rest, s.core.cmdq = f :: rest := by
  unfold txSelect Session.cmdqEmpty
  cases s.core.cmdq <;> grind

theorem txSelect_txGatePass : txSelect s = some .txGatePass ↔ s.core.txPhase = .txGate ∧ s.gateOpen = true := by
  unfold txSelect
  grind

theorem txSelect_txGateDeny : txSelect s = some .txGateDeny ↔ s.core.txPhase = .txGate ∧ s.gateOpen = false := by
  unfold txSelect
  grind

theorem txSelect_txGapchk : txSelect s = some .txGapchk ↔ s.core.txPhase = .txGap := by
  unfold txSelect
  grind

theorem txSelect_txStamp : txSelect s = some .txStamp ↔ s.core.txPhase = .txWait ∧ s.core.txDeadline ≤ s.now := by
  unfold txSelect
  grind

theorem txSelect_txWrite : txSelect s = some .txWrite ↔ s.core.txPhase = .txWrite := by
  unfold txSelect
  grind

/-- TX selects a row of the phase it is in (spec/10_state.md R26). -/
theorem txPhaseOf_of_txSelect (h : txSelect s = some i) : txPhaseOf i = some s.core.txPhase := by
  unfold txSelect at h
  grind [txPhaseOf]

/-! ### The selected step and the others -/

/-- Step `i` of agent `a` changes the state where it is the selected one, and leaves it where it is not. -/
def ChangesExactlyWhenSelected (a : Agent) (i : Instr) (s : State) : Prop :=
  (select a s = some i → ∃ t, exec i s = .next t ∧ t ≠ s) ∧ (select a s ≠ some i → exec i s = .next s)

/-- A guarded step, if its guard is what selects it and its effect changes the session. -/
theorem changesExactly_of_fire {guard : Bool} {effect : Session → Session} (hexec : exec i s = fire s guard effect)
    (hguard : select a s = some i ↔ guard = true) (heffect : guard = true → effect s.core ≠ s.core) :
    ChangesExactlyWhenSelected a i s := by
  constructor
  · intro hsel
    have hg := hguard.1 hsel
    exact ⟨s.onCore effect, by rw [hexec, fire, if_pos hg], ne_of_apply_ne State.core (heffect hg)⟩
  · intro hsel
    rw [hexec, fire, if_neg (mt hguard.2 hsel)]

/-- A guarded step of RX that moves to another phase. -/
theorem changesExactly_of_rxMove {ph : RxPhase} {guard : Bool} {effect : Session → Session}
    (hrow : rxPhaseOf i = some ph) (hexec : exec i s = fire s guard effect)
    (hguard : rxSelect s = some i ↔ guard = true) (hmove : (effect s.core).rxPhase ≠ ph) :
    ChangesExactlyWhenSelected .rx i s := by
  refine changesExactly_of_fire hexec hguard fun hg => ne_of_apply_ne Session.rxPhase ?_
  have hph : some ph = some s.core.rxPhase := hrow.symm.trans (rxPhaseOf_of_rxSelect (hguard.2 hg))
  rwa [← Option.some.inj hph]

/-- A guarded step of TX that moves to another phase. -/
theorem changesExactly_of_txMove {ph : TxPhase} {guard : Bool} {effect : Session → Session}
    (hrow : txPhaseOf i = some ph) (hexec : exec i s = fire s guard effect)
    (hguard : txSelect s = some i ↔ guard = true) (hmove : (effect s.core).txPhase ≠ ph) :
    ChangesExactlyWhenSelected .tx i s := by
  refine changesExactly_of_fire hexec hguard fun hg => ne_of_apply_ne Session.txPhase ?_
  have hph : some ph = some s.core.txPhase := hrow.symm.trans (txPhaseOf_of_txSelect (hguard.2 hg))
  rwa [← Option.some.inj hph]

/-- A step that is not selected and does nothing. -/
theorem changesExactly_of_idle (hexec : exec i s = .next s) (hsel : select a s ≠ some i) :
    ChangesExactlyWhenSelected a i s :=
  ⟨fun h => absurd h hsel, fun _ => hexec⟩

/-- Each step of RX moves to another phase, but for RX.SLIP, which drops a byte of the window that stands there. -/
theorem rxStep_changesExactlyWhenSelected (hi : rxPhaseOf i ≠ none) : ChangesExactlyWhenSelected .rx i s := by
  cases i with
  | rxTop =>
    exact changesExactly_of_rxMove rfl rfl (by simp [rxSelect_rxTop]) (by rw [Session.toRx_rxPhase]; split <;> decide)
  | rxReadOk =>
    by_cases hr : ∃ bytes rest, nextRead s.params.rxChunkMax s.core.line = some (.ok bytes, rest)
    · obtain ⟨bytes, rest, hr⟩ := hr
      exact changesExactly_of_rxMove rfl (by simp only [exec, execRxReadOk, hr]; rfl)
        (by simp [rxSelect_rxReadOk, hr]) (by rw [Session.toRx_rxPhase]; split <;> decide)
    · refine changesExactly_of_idle ?_ fun hsel => hr (rxSelect_rxReadOk.1 hsel).2
      simp only [exec, execRxReadOk]
      split
      · exact absurd ⟨_, _, ‹_›⟩ hr
      · rfl
  | rxReadFail =>
    by_cases hr : ∃ rest, nextRead s.params.rxChunkMax s.core.line = some (.fail, rest)
    · obtain ⟨rest, hr⟩ := hr
      exact changesExactly_of_rxMove rfl (by simp only [exec, execRxReadFail, hr]; rfl)
        (by simp [rxSelect_rxReadFail, hr]) (by simp)
    · refine changesExactly_of_idle ?_ fun hsel => hr (rxSelect_rxReadFail.1 hsel).2
      simp only [exec, execRxReadFail]
      split
      · exact absurd ⟨_, ‹_›⟩ hr
      · rfl
  | rxAccept =>
    cases hw : window s.core.rxbuf with
    | none =>
      exact changesExactly_of_idle (by simp only [exec, execRxAccept, hw]) (by simp [select, rxSelect_rxAccept, hw])
    | some w =>
      exact changesExactly_of_rxMove rfl (by simp only [exec, execRxAccept, hw]; rfl)
        (by simp [rxSelect_rxAccept, hw]) (by simp)
  | rxSlip =>
    cases hw : window s.core.rxbuf with
    | none =>
      exact changesExactly_of_idle (by simp only [exec, execRxSlip, hw]) (by simp [select, rxSelect_rxSlip, hw])
    | some w =>
      refine changesExactly_of_fire (by simp only [exec, execRxSlip, hw]; rfl)
        (by simp [select, rxSelect_rxSlip, hw]) fun _ => ne_of_apply_ne (·.rxbuf.length) ?_
      have hl := length_of_window hw
      simp only [Session.toRx_rxbuf, Session.bufDrop_rxbuf, Session.raise_rxbuf, List.length_drop]
      omega
  | rxScanEnd => exact changesExactly_of_rxMove rfl rfl (by simp [rxSelect_rxScanEnd]) (by simp)
  | rxEnq => exact changesExactly_of_rxMove rfl rfl (by simp [rxSelect_rxEnq]) (by simp)
  | _ => exact absurd rfl hi

/-- Each step of TX moves to another phase. -/
theorem txStep_changesExactlyWhenSelected (hi : txPhaseOf i ≠ none) : ChangesExactlyWhenSelected .tx i s := by
  cases i with
  | txTop =>
    exact changesExactly_of_txMove rfl rfl (by simp [txSelect_txTop]) (by rw [Session.toTx_txPhase]; split <;> decide)
  | txDeq =>
    cases hq : s.core.cmdq with
    | nil => exact changesExactly_of_idle (by simp only [exec, execTxDeq, hq]) (by simp [select, txSelect_txDeq, hq])
    | cons f rest =>
      exact changesExactly_of_txMove rfl (by simp only [exec, execTxDeq, hq]; rfl)
        (by simp [txSelect_txDeq, hq]) (by simp)
  | txGatePass => exact changesExactly_of_txMove rfl rfl (by simp [txSelect_txGatePass]) (by simp)
  | txGateDeny => exact changesExactly_of_txMove rfl rfl (by simp [txSelect_txGateDeny]) (by simp)
  | txGapchk => exact changesExactly_of_txMove rfl rfl (by simp [txSelect_txGapchk]) (by simp)
  | txStamp => exact changesExactly_of_txMove rfl rfl (by simp [txSelect_txStamp]) (by simp)
  | txWrite => exact changesExactly_of_txMove rfl rfl (by simp [txSelect_txWrite]) (by simp)
  | _ => exact absurd rfl hi

/-- Settles O43: every row of an agent changes the state exactly when it is the one its agent selects. -/
theorem selectedStepIsTheEnabledOne : Obligations.SelectedStepIsTheEnabledOne :=
  fun _ _ => ⟨rxStep_changesExactlyWhenSelected, txStep_changesExactlyWhenSelected⟩

end Sys2Proof.Machine
end

section
/-! SUPPORT. What persists in a session: the configuration, what was sent and recorded, and the direction of RUNNING, of
the clock and of LAST_ACTIVITY (spec/10_state.md R28, R51; spec/43_session.md R209 b). -/

namespace Sys2Proof.Machine

variable {p : Params} {now : Nat} {c c' : Session}

/-- The configuration of `c'` is that of `c`, RUNNING is not raised, and what `c` sent and recorded is the beginning of
what `c'` did. -/
structure Session.Persists (c c' : Session) : Prop where
  clientAddr : c'.clientAddr = c.clientAddr
  writeEn : c'.writeEn = c.writeEn
  debugSink : c'.debugSink = c.debugSink
  transport : c'.transport = c.transport
  running : c'.running = true → c.running = true
  wireOut : c.wireOut <+: c'.wireOut
  diag : c.diag <+: c'.diag

theorem Session.Queues.persists {cap : Nat} {new : List Frame} (hq : Session.Queues cap new c c') : c.Persists c' := by
  obtain ⟨cmdq, callers, rfl, -, -⟩ := hq
  exact ⟨rfl, rfl, rfl, rfl, id, List.prefix_rfl, List.prefix_rfl⟩

/-- Only a read failure lowers RUNNING, only TX.WRITE sends, and only a denied write and a bad level are recorded. -/
theorem CoreChange.persists (hc : CoreChange p now c c') : c.Persists c' := by
  cases hc with
  | rxReadFail => exact ⟨rfl, rfl, rfl, rfl, by simp, List.prefix_rfl, List.prefix_rfl⟩
  | txWrite => exact ⟨rfl, rfl, rfl, rfl, id, List.prefix_append _ _, List.prefix_rfl⟩
  | txGateDeny | badLevel => exact ⟨rfl, rfl, rfl, rfl, id, List.prefix_rfl, List.prefix_append _ _⟩
  | call frames hv => exact (c.call_queues p.cmdqCap frames).persists
  | resume k => exact (c.resume_queues p.cmdqCap k).persists
  | same | rxTop | rxReadOk | rxAccept | rxSlip | rxScanEnd | rxEnq | txTop | txDeq | txGatePass | txGapchk | txStamp
  | evPop | line => exact ⟨rfl, rfl, rfl, rfl, id, List.prefix_rfl, List.prefix_rfl⟩

/-- LAST_ACTIVITY is kept, or becomes NOW in a read and in TX.STAMP (spec/10_state.md R34). -/
theorem CoreChange.lastActivity_cases (hc : CoreChange p now c c') :
    c'.lastActivity = c.lastActivity ∨ c'.lastActivity = now := by
  have of_queues : ∀ {new d}, Session.Queues p.cmdqCap new c d → d.lastActivity = c.lastActivity := by
    rintro new d ⟨cmdq, callers, rfl, -, -⟩
    rfl
  cases hc with
  | rxReadOk | txStamp => exact .inr rfl
  | call frames hv => exact .inl (of_queues (c.call_queues p.cmdqCap frames))
  | resume k => exact .inl (of_queues (c.resume_queues p.cmdqCap k))
  | same | rxTop | rxReadFail | rxAccept | rxSlip | rxScanEnd | rxEnq | txTop | txDeq | txGatePass | txGateDeny
  | txGapchk | txWrite | badLevel | evPop | line => exact .inl rfl

/-! ### The debug sink (spec/10_state.md R32) -/

theorem Session.delivered_discard (h : c.debugSink = .discard) : c.delivered = [] := by
  simp only [Session.delivered, h]

theorem Session.delivered_host {id : Nat} (h : c.debugSink = .host id) : c.delivered = c.diag := by
  simp only [Session.delivered, h]

theorem Session.Persists.delivered (h : c.Persists c') : c.delivered <+: c'.delivered := by
  cases hsink : c.debugSink with
  | discard =>
    rw [Session.delivered_discard hsink]
    exact List.nil_prefix
  | host id =>
    rw [Session.delivered_host hsink, Session.delivered_host (h.debugSink.trans hsink)]
    exact h.diag

/-! ### The step -/

/-- A step that selects no other session and is no OPEN changes the current session as `CoreChange` says. -/
theorem step_cases_of_staysInSession {s t : State} (hstay : s.staysInSession) (h : step s = .next t) :
    CoreChange s.params s.now s.core t.core ∧ t.params = s.params ∧ t.others = s.others ∧ s.now ≤ t.now := by
  obtain ⟨hsession, hopen⟩ := hstay
  rcases step_cases h with hchange | ⟨k, -, hk, -⟩ | ⟨cfg, hcfg, -⟩
  · exact hchange
  · exact absurd hk (hsession k)
  · exact absurd hcfg (hopen cfg)

/-- Settles O53: the session persists through the change that the step makes of it, and what the debug sink has seen
follows from DIAG. -/
theorem configurationAndHistoryPersist : Obligations.ConfigurationAndHistoryPersist := by
  intro s t hstay hstep
  obtain ⟨hchange, hparams, hothers, hnow⟩ := step_cases_of_staysInSession hstay hstep
  have hp := hchange.persists
  have hlast : s.core.lastActivity ≤ s.now → s.core.lastActivity ≤ t.core.lastActivity := by
    intro hle
    rcases hchange.lastActivity_cases with e | e <;> rw [e]
    exact hle
  exact ⟨hparams, hothers, hp.clientAddr, hp.writeEn, hp.debugSink, hp.transport, hp.running, hnow, hp.wireOut, hp.diag,
    hlast, hp.delivered, fun hsink => Session.delivered_discard (hp.debugSink.trans hsink),
    fun _ hsink => Session.delivered_host (hp.debugSink.trans hsink)⟩

end Sys2Proof.Machine
end

section
/-! SUPPORT. What the host is told: the result of an operation that is no step and no OPEN is a function of the
parameters, the configuration, RUNNING and EVQ (spec/10_state.md R46). -/

namespace Sys2Proof.Machine

/-- The cells that HOST can read: what an operation of the host hands back depends on nothing else. -/
structure HostView where
  params : Params
  clientAddr : Byte
  writeEn : Bool
  running : Bool
  evq : List Event
  ret : Result

def State.hostView (s : State) : HostView :=
  { params := s.params, clientAddr := s.core.clientAddr, writeEn := s.core.writeEn, running := s.core.running
    evq := s.core.evq, ret := s.ret }

/-- What an operation of the host returns, from the cells that HOST can read. The commands that queue frames, and EV_POP
on an empty queue, return nothing, so the value last handed out stays (spec/45_commands.md R240). The steps and OPEN are
no such operations, and nothing is claimed of their row. -/
def HostView.answer (v : HostView) : Instr → Result
  | .checksum y so d r w => .byte (checksum y so d r w)
  | .encode y so d r w => .frame (encodeFrame y so d r w)
  | .decode b => if valid b then .frame b else .error (.checksumMismatch b)
  | .speedToValue n => if 1 ≤ n ∧ n ≤ 8 then .byte (speedRom n.toNat) else .error (.invalidSpeedLevel n)
  | .valueToSpeed w => .int (valueToSpeed w)
  | .valueToRh w => .tval (valueToRh w)
  | .valueToTemp w => .int (valueToTemp v.params w)
  | .valueToDuty w => .tval (valueToDuty w)
  | .valueRaw w => .int (valueRaw w)
  | .kindOf r => .kind (kindOf v.params r)
  | .translate r w => .tval (translate v.params r w)
  | .mkEvent t w => .event (mkEvent v.params t w)
  | .isWriteAllowed r => .bool (isWriteAllowed v.params v.writeEn r)
  | .buildQuery r => .frame (buildQuery v.params v.clientAddr r)
  | .buildWrite d r w => .frame (buildWrite v.clientAddr d r w)
  | .forMe ev => .bool (forMe v.params v.clientAddr ev)
  | .status => .running v.running
  | .evPop => (v.evq.head?.map .event).getD v.ret
  | _ => v.ret

theorem speedCommand_ret {reg : Byte} {n : Int} {s t : State} (h : speedCommand reg n s = .next t) : t.ret = s.ret := by
  have hret := congrArg State.ret (speedCommand_change h).2
  exact hret

/-- An operation that is no step and no OPEN answers from the cells that HOST can read. -/
theorem exec_ret_eq_answer {i : Instr} {s t : State} (hrx : rxPhaseOf i = none) (htx : txPhaseOf i = none)
    (hopen : ∀ cfg, i ≠ .openSession cfg) (h : exec i s = .next t) : t.ret = s.hostView.answer i := by
  cases i with
  | openSession cfg => exact absurd rfl (hopen cfg)
  | checksum | encode | valueToSpeed | valueToRh | valueToTemp | valueToDuty | valueRaw | kindOf | translate | mkEvent
  | isWriteAllowed | buildQuery | buildWrite | forMe | status => cases h; rfl
  | frameQuery | frameData | query | cmdPush | reservedCmd | sendInit => cases h; rfl
  | setSpeed | setDefaultFanSpeed | setMaxFanSpeed => exact speedCommand_ret h
  | decode b =>
    simp only [exec, execDecode, decodeFrame] at h
    by_cases hv : valid b = true
    · rw [if_pos hv] at h
      cases h
      exact (if_pos hv).symm
    · rw [if_neg hv] at h
      cases h
      exact (if_neg hv).symm
  | speedToValue n =>
    by_cases hn : 1 ≤ n ∧ n ≤ 8
    · simp only [exec, execSpeedToValue, speedToValue_ok hn] at h
      cases h
      exact (if_pos hn).symm
    · simp only [exec, execSpeedToValue, speedToValue_error hn] at h
      cases h
      exact (if_neg hn).symm
  | evPop =>
    have hanswer : s.hostView.answer .evPop = (s.core.evq.head?.map .event).getD s.ret := rfl
    rw [hanswer]
    simp only [exec, execEvPop] at h
    split at h <;> rename_i hq <;> cases h <;> rw [hq] <;> rfl
  | rxTop | rxReadOk | rxReadFail | rxAccept | rxSlip | rxScanEnd | rxEnq => cases hrx
  | txTop | txDeq | txGatePass | txGateDeny | txGapchk | txStamp | txWrite => cases htx

/-- Settles O57: the two states show HOST the same cells, so both runs give the same answer. -/
theorem hostCannotReadPrivateCells : Obligations.HostCannotReadPrivateCells := by
  intro s₁ s₂ t₁ t₂ i hrx htx hopen hparams hret haddr hen hrunning hevq h₁ h₂
  have hview : s₁.hostView = s₂.hostView := by
    simp only [State.hostView, hparams, hret, haddr, hen, hrunning, hevq]
  rw [exec_ret_eq_answer hrx htx hopen h₁, exec_ret_eq_answer hrx htx hopen h₂, hview]

end Sys2Proof.Machine
end

section
/-! SUPPORT. The transport's unread offers: the equations of a read and of LINE's acts on them (spec/10_state.md R45,
R49). -/

namespace Sys2Proof.Machine

/-! ### What a read returns -/

theorem nextRead_nil (chunkMax : Option Nat) : nextRead chunkMax [] = none := rfl

theorem nextRead_fail (chunkMax : Option Nat) (rest : List Offer) :
    nextRead chunkMax (.fail :: rest) = some (.fail, rest) := rfl

theorem nextRead_ok_unbounded (bytes : List Byte) (rest : List Offer) :
    nextRead none (.ok bytes :: rest) = some (.ok bytes, rest) := by
  simp [nextRead]

/-- RX_CHUNK_MAX splits a longer chunk (notes/assumptions/10.md). -/
theorem nextRead_ok_bounded (m : Nat) (bytes : List Byte) (rest : List Offer) :
    nextRead (some m) (.ok bytes :: rest) =
      if bytes.length ≤ m then some (.ok bytes, rest)
      else some (.ok (bytes.take m), .ok (bytes.drop m) :: rest) := by
  by_cases h : bytes.length ≤ m
  · simp [nextRead, h]
  · have hmin : min m bytes.length = m := Nat.min_eq_left (by omega)
    have hne : m ≠ bytes.length := by omega
    simp [nextRead, h, hmin, hne]

/-! ### What LINE does -/

theorem step_line {s : State} {e : LineEvent} {rest : List Turn} (h : s.agenda = .line e :: rest) :
    step s = .next (lineAct e { s with agenda := rest }) :=
  step_cons_of_no_instr h rfl

/-- What is left of a chunk of three parts that loses the middle one. -/
theorem loseBytes_middle (kept₁ lost kept₂ : List Byte) :
    loseBytes kept₁.length lost.length (.ok (kept₁ ++ lost ++ kept₂)) =
      if kept₁ ++ kept₂ = [] then [] else [.ok (kept₁ ++ kept₂)] := by
  have hleft : (kept₁ ++ lost ++ kept₂).take kept₁.length ++ (kept₁ ++ lost ++ kept₂).drop (kept₁.length + lost.length)
      = kept₁ ++ kept₂ := by
    rw [← List.length_append, List.drop_left, List.append_assoc, List.take_left]
  simp only [loseBytes, hleft, List.isEmpty_iff]

/-- A loss aimed at an item of what the transport holds replaces that item by what is left of it. -/
theorem lineAct_lose {s : State} {pre post : List Offer} {o : Offer} (h : s.core.line = pre ++ o :: post) (i n : Nat) :
    lineAct (.lose pre.length i n) s = s.onCore fun c => c.setLine (pre ++ loseBytes i n o ++ post) := by
  have hdrop : (pre ++ o :: post).drop (pre.length + 1) = post := by simp
  simp only [lineAct, State.onCore, h, hdrop, List.take_left, List.getElem?_append_right (Nat.le_refl pre.length),
    Nat.sub_self, List.getElem?_cons_zero, Option.map_some, Option.getD_some]

/-- Settles O19: the equations of a read, and of the two turns of LINE. -/
theorem readReturnsOldestBytes : Obligations.ReadReturnsOldestBytes := by
  refine ⟨fun bytes rest m => ?read, fun s o rest h => step_line h,
    fun s pre post kept₁ lost kept₂ rest hline h => ?lose⟩
  case read =>
    exact ⟨nextRead_nil _, nextRead_nil _, nextRead_fail _ _, nextRead_fail _ _, nextRead_ok_unbounded _ _,
      nextRead_ok_bounded _ _ _⟩
  case lose =>
    rw [step_line h, lineAct_lose (s := { s with agenda := rest }) hline, loseBytes_middle]
    rfl

end Sys2Proof.Machine
end

section
/-! SUPPORT. The state after reset: it is the return of a default OPEN of T0 (spec/10_state.md R50; notes/assumptions/2.md,
4.md, 20.md), so it has what every opened session has. -/

namespace Sys2Proof.Machine

/-- T0's temperature table never decreases: it does not within each eighth, nor from one eighth to the next. -/
theorem tempT0_isChain : tempT0.toList.IsChain (· ≤ ·) := by
  have heighths : tempT0.toList = tempT0_00 ++ tempT0_20 ++ tempT0_40 ++ tempT0_60 ++ tempT0_80 ++ tempT0_A0 ++
      tempT0_C0 ++ tempT0_E0 := rfl
  simp only [heighths, List.isChain_append]
  decide

/-- T0 meets the constraints on ids, table and capacity (spec/00_scope.md R11). -/
theorem t0_legal : Params.t0.Legal :=
  ⟨by decide, ⟨rfl, rfl, tempT0_isChain⟩, by decide⟩

/-- The default configuration on transport 0, which is handed over open. -/
def defaultConfig : OpenConfig :=
  { transport := { id := 0, isOpen := true }, clientAddr := none, writeEn := none, debugSink := none }

theorem reset_core : State.reset.core = openedSession State.reset defaultConfig := rfl

/-- At reset there is one session. -/
theorem reset_eachSession {P : Session → Prop} (h : P (openedSession State.reset defaultConfig)) :
    State.reset.eachSession P := by
  intro c hc
  rw [List.mem_singleton.1 hc, reset_core]
  exact h

/-- An opened session has sent nothing, and TX is at the top of its loop. -/
theorem openedSession_gated (s : State) (cfg : OpenConfig) : (openedSession s cfg).Gated s.params := by
  simp [Session.Gated, openedSession, configured, newSession]

/-- An opened session has no stamp. -/
theorem openedSession_paced (s : State) (cfg : OpenConfig) : (openedSession s cfg).Paced s.now := by
  simp [Session.Paced, openedSession, configured, newSession]

/-- Settles O41: the cells are those of an opened session, and T0 is legal. -/
theorem resetStateIsOpened : Obligations.ResetStateIsOpened :=
  ⟨rfl, rfl, rfl, rfl, Nat.le_refl 0, rfl, rfl, rfl, rfl, rfl, rfl, rfl, t0_legal⟩

/-- Settles O52: each invariant holds of every opened session, and the one session at reset is opened. -/
theorem resetMeetsInvariants : Obligations.ResetMeetsInvariants := by
  obtain ⟨hregs, -, -, hcap⟩ := t0_legal
  exact ⟨reset_eachSession (openedSession_sound rfl hcap), reset_eachSession (openedSession_gated _ _),
    reset_eachSession (openedSession_paced _ _), reset_eachSession (openedSession_framesValid _ _),
    reset_eachSession (openedSession_eventsTranslated hregs _)⟩

end Sys2Proof.Machine
end

section
/-! SUPPORT. The two queues are first-in first-out (spec/20_memory.md R71, R73): what each change of a session does to EVQ
and to CMDQ, said once for each queue. -/

namespace Sys2Proof.Machine

variable {p : Params} {now : Nat} {c c' : Session}

/-! ### Calls and callers -/

/-- The calls of the host port and the callers' turns do not touch EVQ. -/
theorem Session.Queues.evq_eq {cap : Nat} {new : List Frame} (hq : Session.Queues cap new c c') : c'.evq = c.evq := by
  obtain ⟨cmdq, callers, rfl, -, -⟩ := hq
  rfl

theorem Session.call_cmdq (c : Session) (cap : Nat) (fs : List Frame) :
    ∃ pushed, (c.call cap fs).cmdq = c.cmdq ++ pushed := by
  obtain ⟨pushed, waiting, -, e | e⟩ := c.call_split cap fs <;> exact ⟨pushed, by rw [e]⟩

theorem Session.resume_cmdq (c : Session) (cap k : Nat) : ∃ pushed, (c.resume cap k).cmdq = c.cmdq ++ pushed := by
  rcases c.resume_cases cap k with e | ⟨f, fs, -, -, e⟩ <;> rw [e]
  · exact ⟨[], (List.append_nil _).symm⟩
  · exact ⟨[f], rfl⟩

/-! ### The queues through a change of a session -/

/-- Only RX.ENQ adds an event, at the end of EVQ, and only EV_POP takes one, its first. -/
theorem CoreChange.evq_cases (hc : CoreChange p now c c') :
    c'.evq = c.evq ∨ (∃ e, c'.evq = c.evq ++ [e]) ∨ ∃ e, c.evq = e :: c'.evq := by
  cases hc with
  | rxEnq => exact .inr (.inl ⟨c.evr, rfl⟩)
  | evPop e rest hq => exact .inr (.inr ⟨e, hq⟩)
  | call frames hv => exact .inl (c.call_queues p.cmdqCap frames).evq_eq
  | resume k => exact .inl (c.resume_queues p.cmdqCap k).evq_eq
  | same | rxTop | rxReadOk | rxReadFail | rxAccept | rxSlip | rxScanEnd | txTop | txDeq | txGatePass | txGateDeny
  | txGapchk | txStamp | txWrite | badLevel | line => exact .inl rfl

/-- Only a call or a waiting caller adds frames, at the end of CMDQ, and only TX.DEQ takes one, its first. -/
theorem CoreChange.cmdq_cases (hc : CoreChange p now c c') :
    (∃ fs, c'.cmdq = c.cmdq ++ fs) ∨ ∃ f, c.cmdq = f :: c'.cmdq := by
  cases hc with
  | txDeq f rest hph hq => exact .inr ⟨f, hq⟩
  | call frames hv => exact .inl (c.call_cmdq p.cmdqCap frames)
  | resume k => exact .inl (c.resume_cmdq p.cmdqCap k)
  | same | rxTop | rxReadOk | rxReadFail | rxAccept | rxSlip | rxScanEnd | rxEnq | txTop | txGatePass | txGateDeny
  | txGapchk | txStamp | txWrite | badLevel | evPop | line => exact .inl ⟨[], (List.append_nil _).symm⟩

/-- Settles O54: a step within a session is a change of the current session, which treats each queue first-in
first-out. -/
theorem queuesAreFirstInFirstOut : Obligations.QueuesAreFirstInFirstOut := by
  intro s t hstay hstep
  obtain ⟨hchange, -⟩ := step_cases_of_staysInSession hstay hstep
  exact ⟨hchange.evq_cases, hchange.cmdq_cases⟩

end Sys2Proof.Machine
end

section
/-! SUPPORT. The decoder and the encoder, one equation per form of word (spec/30_encoding.md R91, R100, R102): what is
decoded from bytes or codes put together, and what is encoded for the operation that a word decodes to. -/

namespace Sys2Proof.Machine

/-! ### Frames (spec/30_encoding.md R91, R92, R97) -/

/-- A group of six bytes is no frame exactly when its last byte is not the sum of the others mod 256. -/
theorem valid_eq_false_iff (f : Frame) : valid f = false ↔
    f.checksum.toNat ≠
      (f.system.toNat + f.source.toNat + f.destination.toNat + f.register.toNat + f.value.toNat) % 256 := by
  rw [Bool.eq_false_iff, ne_eq, valid_iff, ← BitVec.toNat_inj, checksum_toNat]

theorem decode_wire_of_invalid {w : BitVec 48} (h : valid (wordFrame w) = false) :
    decode (.wire w) = .error .checksumMismatch := by
  simp [decode, decodeWire, h]

theorem decode_frameWord_query {y so d v c : Byte} (h : valid ⟨y, so, d, Config.queryMark, v, c⟩ = true) :
    decode (.wire (frameWord ⟨y, so, d, Config.queryMark, v, c⟩)) = .ok (.frameQuery y so d v c) := by
  simp [decode, decodeWire, wordFrame_frameWord, h]

theorem decode_frameWord_data {y so d r v c : Byte} (hr : r ≠ Config.queryMark) (h : valid ⟨y, so, d, r, v, c⟩ = true) :
    decode (.wire (frameWord ⟨y, so, d, r, v, c⟩)) = .ok (.frameData y so d r v c) := by
  simp [decode, decodeWire, wordFrame_frameWord, hr, h]

/-- 48 bits are the string of a query frame, the string of a data frame, or no frame. -/
theorem wire_cases (w : BitVec 48) :
    (∃ y so d v c, w = frameWord ⟨y, so, d, Config.queryMark, v, c⟩ ∧
      valid ⟨y, so, d, Config.queryMark, v, c⟩ = true) ∨
    (∃ y so d r v c, w = frameWord ⟨y, so, d, r, v, c⟩ ∧ r ≠ Config.queryMark ∧ valid ⟨y, so, d, r, v, c⟩ = true) ∨
    valid (wordFrame w) = false := by
  have hw := frameWord_wordFrame w
  generalize wordFrame w = f at hw ⊢
  obtain ⟨y, so, d, r, v, c⟩ := f
  cases hv : valid ⟨y, so, d, r, v, c⟩ with
  | false => exact .inr (.inr rfl)
  | true =>
    by_cases hr : r = Config.queryMark
    · subst hr
      exact .inl ⟨y, so, d, v, c, hw.symm, hv⟩
    · exact .inr (.inl ⟨y, so, d, r, v, c, hw.symm, hr, hv⟩)

/-! ### Host words (spec/30_encoding.md R100, R102) -/

/-- The decoder reads a host word by its four bytes. -/
theorem decode_hostWord (op a b c : Byte) : decode (.host (hostWord op a b c)) = .ok
    (if op = 0x01 then .query a else if op = 0x02 then .setSpeed (sext8 a)
      else if op = 0x03 then .setDefaultFanSpeed (sext8 a) else if op = 0x04 then .setMaxFanSpeed (sext8 a)
      else if op = 0x05 then .cmdPush a b c else if op = 0x06 then .evPop else if op = 0x07 then .status
      else .reservedCmd op a b c) := by
  obtain ⟨hop, ha, hb, hc⟩ := hostWord_bytes op a b c
  simp only [decode, decodeHost, hop, ha, hb, hc]

theorem decode_query (a b c : Byte) : decode (.host (hostWord 0x01 a b c)) = .ok (.query a) :=
  decode_hostWord 0x01 a b c

theorem decode_setSpeed (a b c : Byte) : decode (.host (hostWord 0x02 a b c)) = .ok (.setSpeed (sext8 a)) :=
  decode_hostWord 0x02 a b c

theorem decode_setDefaultFanSpeed (a b c : Byte) :
    decode (.host (hostWord 0x03 a b c)) = .ok (.setDefaultFanSpeed (sext8 a)) :=
  decode_hostWord 0x03 a b c

theorem decode_setMaxFanSpeed (a b c : Byte) :
    decode (.host (hostWord 0x04 a b c)) = .ok (.setMaxFanSpeed (sext8 a)) :=
  decode_hostWord 0x04 a b c

theorem decode_cmdPush (a b c : Byte) : decode (.host (hostWord 0x05 a b c)) = .ok (.cmdPush a b c) :=
  decode_hostWord 0x05 a b c

theorem decode_evPop (a b c : Byte) : decode (.host (hostWord 0x06 a b c)) = .ok .evPop :=
  decode_hostWord 0x06 a b c

theorem decode_status (a b c : Byte) : decode (.host (hostWord 0x07 a b c)) = .ok .status :=
  decode_hostWord 0x07 a b c

theorem opReserved_iff (op : Byte) : opReserved op = true ↔ op = 0 ∨ 8 ≤ op.toNat := by
  simp [opReserved]

/-- The reserved ops are those that name no command. -/
theorem opReserved_iff_not_command (op : Byte) :
    opReserved op = true ↔
      op ≠ 0x01 ∧ op ≠ 0x02 ∧ op ≠ 0x03 ∧ op ≠ 0x04 ∧ op ≠ 0x05 ∧ op ≠ 0x06 ∧ op ≠ 0x07 := by
  rw [opReserved_iff]
  bv_omega

theorem decode_reservedCmd {op : Byte} (h : opReserved op = true) (a b c : Byte) :
    decode (.host (hostWord op a b c)) = .ok (.reservedCmd op a b c) := by
  obtain ⟨h1, h2, h3, h4, h5, h6, h7⟩ := (opReserved_iff_not_command op).1 h
  simp only [decode_hostWord, h1, h2, h3, h4, h5, h6, h7, if_false]

/-- The word of a speed command brings its level back, if the signed field can carry it. -/
theorem decode_speedWord {op : Byte} {command : Int → Instr} {n : Int}
    (hd : ∀ a b c, decode (.host (hostWord op a b c)) = .ok (command (sext8 a))) (hn : levelFits n = true) :
    decode (speedWord op n) = .ok (command n) := by
  rw [speedWord, hd, sext8_ofInt hn]

/-- Every host word decodes to a well-formed operation that has a word. -/
theorem decodeHost_encodable (w : BitVec 32) :
    (decodeHost w).wellFormed = true ∧ ∃ w', encode (decodeHost w) = some w' := by
  simp only [decodeHost]
  split_ifs with h1 h2 h3 h4 h5 h6 h7
  · exact ⟨rfl, _, rfl⟩
  · exact ⟨levelFits_sext8 _, _, rfl⟩
  · exact ⟨levelFits_sext8 _, _, rfl⟩
  · exact ⟨levelFits_sext8 _, _, rfl⟩
  · exact ⟨rfl, _, rfl⟩
  · exact ⟨rfl, _, rfl⟩
  · exact ⟨rfl, _, rfl⟩
  · exact ⟨(opReserved_iff_not_command _).2 ⟨h1, h2, h3, h4, h5, h6, h7⟩, _, rfl⟩

/-! ### Step words (spec/30_encoding.md R102; notes/assumptions/3.md) -/

/-- The row number and the phase code of a step word. -/
theorem phaseWord_bits (number : BitVec 5) (code : BitVec 3) :
    (number ++ code).extractLsb' 0 3 = code ∧ (number ++ code).extractLsb' 3 5 = number := by
  constructor
  · exact BitVec.extractLsb'_append_eq_right
  · exact BitVec.extractLsb'_append_eq_left

/-- The step word of the number and the code that stand in a byte is that byte. -/
theorem phaseWord_of_bits (w : BitVec 8) : phaseWord (w.extractLsb' 3 5) (w.extractLsb' 0 3) = .phase w := by
  have happend : w.extractLsb' 3 5 ++ w.extractLsb' 0 3 = w.extractLsb' 0 8 :=
    BitVec.extractLsb'_append_extractLsb'_eq_extractLsb' rfl
  rw [phaseWord, happend, BitVec.extractLsb'_eq_self]

theorem decode_phaseWord {number : BitVec 5} {code : BitVec 3} {i : Instr}
    (h : (phaseRows code)[number.toNat]? = some i) : decode (phaseWord number code) = .ok i := by
  obtain ⟨hcode, hnumber⟩ := phaseWord_bits number code
  simp only [phaseWord, decode, decodePhase, hcode, hnumber, h]

/-- The rows stand under the numbers that the encoder gives them. -/
theorem encode_of_phaseRows (number : BitVec 5) (code : BitVec 3) : ∀ i ∈ (phaseRows code)[number.toNat]?,
    i.wellFormed = true ∧ encode i = some (phaseWord number code) := by
  revert number code
  decide

/-- A step word that decodes holds the number and the code of its row. -/
theorem phaseRows_of_decode {w : BitVec 8} {i : Instr} (h : decode (.phase w) = .ok i) :
    (phaseRows (w.extractLsb' 0 3))[(w.extractLsb' 3 5).toNat]? = some i := by
  simp only [decode, decodePhase] at h
  split at h <;> cases h
  assumption

end Sys2Proof.Machine
end

section
/-! SUPPORT. Decoder and encoder undo each other (spec/30_encoding.md R91, R92, R100, R102). -/

namespace Sys2Proof.Machine

/-- Settles O46: by the form of the operation's word, with the decoder's equation for that form. -/
theorem decodeEncodeAgree : Obligations.DecodeEncodeAgree := by
  intro i w hwf he
  cases i with
  | frameQuery y so d v c =>
    cases he
    exact decode_frameWord_query hwf
  | frameData y so d r v c =>
    cases he
    obtain ⟨hr, hv⟩ := Bool.and_eq_true_iff.1 hwf
    exact decode_frameWord_data (by simpa using hr) hv
  | rxTop | rxReadOk | rxReadFail | rxAccept | rxSlip | rxScanEnd | rxEnq | txTop | txDeq | txGatePass | txGateDeny
  | txGapchk | txStamp | txWrite =>
    cases he
    exact decode_phaseWord rfl
  | query r => cases he; exact decode_query r 0 0
  | setSpeed n => cases he; exact decode_speedWord decode_setSpeed hwf
  | setDefaultFanSpeed n => cases he; exact decode_speedWord decode_setDefaultFanSpeed hwf
  | setMaxFanSpeed n => cases he; exact decode_speedWord decode_setMaxFanSpeed hwf
  | cmdPush d r v => cases he; exact decode_cmdPush d r v
  | evPop => cases he; exact decode_evPop 0 0 0
  | status => cases he; exact decode_status 0 0 0
  | reservedCmd op a b c => cases he; exact decode_reservedCmd hwf a b c
  | checksum | encode | decode | speedToValue | valueToSpeed | valueToRh | valueToTemp | valueToDuty | valueRaw | kindOf
  | translate | mkEvent | isWriteAllowed | buildQuery | buildWrite | forMe | sendInit | openSession => cases he

/-- What a word decodes to is well formed and has a word, which is the decoded one unless that is a host word. -/
theorem encode_of_decode {w : CodeWord} {i : Instr} (h : decode w = .ok i) :
    i.wellFormed = true ∧ ∃ w', encode i = some w' ∧ ((∀ h, w ≠ .host h) → w' = w) := by
  cases w with
  | wire w =>
    rcases wire_cases w with ⟨y, so, d, v, c, rfl, hv⟩ | ⟨y, so, d, r, v, c, rfl, hr, hv⟩ | hv
    · rw [decode_frameWord_query hv] at h
      cases h
      exact ⟨hv, _, rfl, fun _ => rfl⟩
    · rw [decode_frameWord_data hr hv] at h
      cases h
      exact ⟨by simp [Instr.wellFormed, hr, hv], _, rfl, fun _ => rfl⟩
    · rw [decode_wire_of_invalid hv] at h
      cases h
  | host w =>
    cases h
    obtain ⟨hwf, w', he⟩ := decodeHost_encodable w
    exact ⟨hwf, w', he, fun hne => absurd rfl (hne w)⟩
  | phase w =>
    obtain ⟨hwf, he⟩ := encode_of_phaseRows _ _ i (phaseRows_of_decode h)
    exact ⟨hwf, _, he, fun _ => phaseWord_of_bits w⟩

/-- Settles O47: the word that the encoder gives decodes back because the decoder answers well-formed operations only. -/
theorem encodeDecodeAgree : Obligations.EncodeDecodeAgree := by
  intro w i h
  obtain ⟨hwf, w', he, hw⟩ := encode_of_decode h
  exact ⟨hwf, w', he, decodeEncodeAgree i w' hwf he, hw⟩

/-- Settles O45: each word is its four bytes, its six bytes, or its row number and phase code put together. -/
theorem wordsDecodeAsEncoded : Obligations.WordsDecodeAsEncoded := by
  have query : (0x012711002962 : BitVec 48) = frameWord ⟨0x01, 0x27, 0x11, Config.queryMark, 0x29, 0x62⟩ := by decide
  have data : (0x0111203598FF : BitVec 48) = frameWord ⟨0x01, 0x11, 0x20, 0x35, 0x98, 0xFF⟩ := by decide
  refine ⟨decode_query 0x35 0 0, decode_setSpeed 0x03 0 0, decode_setSpeed 0xFF 0 0, decode_cmdPush 0x11 0x32 0x80,
    decode_evPop 0 0 0, decode_reservedCmd (op := 0xFF) rfl 0x12 0x34 0x56, ?_, ?_, decode_wire_of_invalid (by decide),
    decode_phaseWord (number := 0) (code := 0b010) rfl, decode_phaseWord (number := 0) (code := 0b100) rfl⟩
  · rw [query]
    exact decode_frameWord_query (by decide)
  · rw [data]
    exact decode_frameWord_data (by decide) (by decide)

end Sys2Proof.Machine
end

section
/-! SUPPORT. What the machine does with a frame on the line and with a reserved host word (spec/30_encoding.md R91, R97,
R102). -/

namespace Sys2Proof.Machine

/-- The bytes of a frame arrive as one chunk behind what the transport holds. -/
theorem arrive_eq (s : State) (f : Frame) :
    arrive s f = { s with core := { s.core with line := s.core.line ++ [.ok (frameBytes f)] } } := rfl

/-- Any 48 bits on the line arrive as their six bytes, a frame or not. -/
theorem step_wire {s : State} {w : BitVec 48} {rest : List Turn} (h : s.agenda = .word (.wire w) :: rest) :
    step s = .next (arrive { s with agenda := rest } (wordFrame w)) := by
  rcases wire_cases w with ⟨y, so, d, v, c, rfl, hv⟩ | ⟨y, so, d, r, v, c, rfl, hr, hv⟩ | hv
  · rw [step_word h (decode_frameWord_query hv), wordFrame_frameWord]
    rfl
  · rw [step_word h (decode_frameWord_data hr hv), wordFrame_frameWord]
    rfl
  · rw [step_rejected_word h (decode_wire_of_invalid hv)]
    rfl

/-- Settles O1: both frame operations and the rejected word come to the same arrival of six bytes. -/
theorem wireFrameReachesTransport : Obligations.WireFrameReachesTransport := by
  refine ⟨fun y so d r v c s => ⟨rfl, rfl⟩, fun y so d r v c s rest h => ?_⟩
  have hf : wordFrame (y ++ so ++ d ++ r ++ v ++ c) = ⟨y, so, d, r, v, c⟩ := wordFrame_frameWord ⟨y, so, d, r, v, c⟩
  refine ⟨fun hc => decode_wire_of_invalid ?_, ?_⟩
  · rw [hf]
    exact (valid_eq_false_iff _).2 hc
  · rw [step_wire h, hf, arrive_eq]
    rfl

/-- Settles O36: a reserved op names no command, and the reserved command leaves the state. -/
theorem reservedCommandChangesNothing : Obligations.ReservedCommandChangesNothing := by
  intro s op a b c rest hop
  have hd := decode_reservedCmd ((opReserved_iff op).2 hop) a b c
  exact ⟨hd, rfl, fun h => step_word h hd⟩

end Sys2Proof.Machine
end

section
/-! SUPPORT. The packet codec (spec/40_codec.md): the equations of its three operations, and what the checksum as a sum
in the bytes' own arithmetic sees of a change. -/

namespace Sys2Proof.Machine

/-! ### The operations (spec/40_codec.md R120 to R122) -/

theorem exec_checksum (y so d r v : Byte) (s : State) :
    exec (.checksum y so d r v) s = .next { s with ret := .byte (checksum y so d r v) } := rfl

theorem exec_encode (y so d r v : Byte) (s : State) :
    exec (.encode y so d r v) s = .next { s with ret := .frame (encodeFrame y so d r v) } := rfl

theorem exec_decode_of_valid {b : Frame} (h : valid b = true) (s : State) :
    exec (.decode b) s = .next { s with ret := .frame b } := by
  have hd : decodeFrame b = .ok b := if_pos h
  simp only [exec, execDecode, hd]
  rfl

/-- The disposition of ChecksumMismatch leaves no trace in the session, so only the result tells of it. -/
theorem exec_decode_of_invalid {b : Frame} (h : valid b = false) (s : State) :
    exec (.decode b) s = .next { s with ret := .error (.checksumMismatch b) } := by
  have hd : decodeFrame b = .error (.checksumMismatch b) := if_neg (Bool.eq_false_iff.1 h)
  simp only [exec, execDecode, hd]
  rfl

theorem exec_decode_eq_frame_iff (b : Frame) (s : State) :
    exec (.decode b) s = .next { s with ret := .frame b } ↔ valid b = true := by
  refine ⟨fun h => ?_, fun h => exec_decode_of_valid h s⟩
  cases hv : valid b with
  | true => rfl
  | false =>
    rw [exec_decode_of_invalid hv] at h
    injection h with hs
    cases congrArg State.ret hs

/-! ### The checksum as a sum (spec/40_codec.md R120, R124) -/

theorem checksum_eq_sum (y s d r v : Byte) : checksum y s d r v = [y, s, d, r, v].sum := by
  simp only [checksum_eq_add, List.sum_cons, List.sum_nil, add_zero, add_assoc]

/-- The order of the five bytes does not matter. -/
theorem checksum_perm {y s d r v y' s' d' r' v' : Byte} (h : List.Perm [y, s, d, r, v] [y', s', d', r', v']) :
    checksum y' s' d' r' v' = checksum y s d r v := by
  rw [checksum_eq_sum, checksum_eq_sum, h.sum_eq]

/-- A valid group of six bytes is what ENCODE makes of its first five. -/
theorem encodeFrame_of_valid {f : Frame} (h : valid f = true) :
    encodeFrame f.system f.source f.destination f.register f.value = f := by
  rw [encodeFrame, ← (valid_iff f).1 h]

/-- A group of six bytes is valid exactly when its last byte is the sum of the others in byte arithmetic. -/
theorem valid_iff_eq_add (f : Frame) :
    valid f = true ↔ f.checksum = f.system + f.source + f.destination + f.register + f.value := by
  rw [valid_iff, checksum_eq_add]

/-- `g` differs from `f` in exactly one of its six bytes. -/
def OneByteChanged (f g : Frame) : Prop :=
  ∃ b : Byte, (b ≠ f.system ∧ g = { f with system := b }) ∨ (b ≠ f.source ∧ g = { f with source := b }) ∨
    (b ≠ f.destination ∧ g = { f with destination := b }) ∨ (b ≠ f.register ∧ g = { f with register := b }) ∨
    (b ≠ f.value ∧ g = { f with value := b }) ∨ (b ≠ f.checksum ∧ g = { f with checksum := b })

/-- If both groups were valid, a changed sixth byte would equal the unchanged sum; for another changed byte the two sums
would be the same byte, where the four unchanged summands cancel. -/
theorem OneByteChanged.invalid {f g : Frame} (h : OneByteChanged f g) (hf : valid f = true) : valid g = false := by
  rw [Bool.eq_false_iff, ne_eq, valid_iff_eq_add]
  rw [valid_iff_eq_add] at hf
  obtain ⟨b, ⟨hb, rfl⟩ | ⟨hb, rfl⟩ | ⟨hb, rfl⟩ | ⟨hb, rfl⟩ | ⟨hb, rfl⟩ | ⟨hb, rfl⟩⟩ := h
  case inr.inr.inr.inr.inr => exact fun hg => hb (hg.trans hf.symm)
  all_goals
    intro hg
    have hsums := hg.symm.trans hf
    simp only [add_left_inj, add_right_inj] at hsums
    exact hb hsums

/-! ### The statements -/

/-- Settles O2: the operation hands out the sum, which a permutation of the bytes keeps. -/
theorem checksumIsSumMod256 : Obligations.ChecksumIsSumMod256 := by
  intro y so d r v s
  refine ⟨checksum y so d r v, exec_checksum y so d r v s, checksum_toNat y so d r v, checksum_eq_add y so d r v, ?_⟩
  intro y' so' d' r' v' hperm
  rw [exec_checksum, checksum_perm hperm]

/-- Settles O3: ENCODE makes valid frames only, and a frame that DECODE returned is valid. -/
theorem encodeAppendsChecksumAndRoundTrips : Obligations.EncodeAppendsChecksumAndRoundTrips := by
  refine ⟨fun y so d r v s => ?_, fun b s hdecoded => ?_⟩
  · exact ⟨checksum y so d r v, exec_encode y so d r v s, checksum_toNat y so d r v,
      exec_decode_of_valid (valid_encodeFrame y so d r v) s⟩
  · rw [exec_encode, encodeFrame_of_valid ((exec_decode_eq_frame_iff b s).1 hdecoded)]

/-- Settles O4: the condition of the statement is validity. -/
theorem decodeAcceptsExactlyValidWindows : Obligations.DecodeAcceptsExactlyValidWindows := by
  intro b s
  have hiff := valid_eq_false_iff b
  cases hv : valid b with
  | true => rw [exec_decode_of_valid hv, if_pos (by simpa [hv] using hiff)]
  | false => rw [exec_decode_of_invalid hv, if_neg (hiff.1 hv)]

/-- Settles O5: one changed byte changes the sum or the checksum but not both; changes that cancel keep the equation of
validity; and the sum is the one sixth byte that meets it. -/
theorem checksumDetectsOneByteChanges : Obligations.ChecksumDetectsOneByteChanges := by
  refine ⟨fun f g hf hchange s => ?_, fun f g hf hc hsum s => ?_, fun y so d r v s => ?_⟩
  · exact exec_decode_of_invalid (OneByteChanged.invalid hchange hf) s
  · refine exec_decode_of_valid ((valid_iff_eq_add g).2 ?_) s
    rw [hc, hsum, (valid_iff_eq_add f).1 hf]
  · refine ⟨checksum y so d r v, fun c' => ?_⟩
    rw [exec_decode_eq_frame_iff, valid_iff]

end Sys2Proof.Machine
end

section
/-! SUPPORT. The register value translator (spec/41_translator.md): the equations of its operations, and what each
conversion says about the byte it is given. -/

namespace Sys2Proof.Machine

variable {p : Params} {r : Byte}

/-! ### The operations (spec/41_translator.md R141 to R148) -/

theorem exec_speedToValue_of_level {n : Int} (h : 1 ≤ n ∧ n ≤ 8) (s : State) :
    exec (.speedToValue n) s = .next { s with ret := .byte (speedRom n.toNat) } := by
  simp only [exec, execSpeedToValue, speedToValue_ok h]
  rfl

/-- A bad level leaves its DIAG record and is handed back (spec/60_exceptions.md R274; notes/assumptions/8.md). -/
theorem exec_speedToValue_of_bad_level {n : Int} (h : ¬(1 ≤ n ∧ n ≤ 8)) (s : State) :
    exec (.speedToValue n) s = .next { s with
      core := { s.core with diag := s.core.diag ++ [.invalidSpeedLevel n] }
      ret := .error (.invalidSpeedLevel n) } := by
  simp only [exec, execSpeedToValue, speedToValue_error h]
  rfl

theorem exec_valueToSpeed (v : Byte) (s : State) :
    exec (.valueToSpeed v) s = .next { s with ret := .int (valueToSpeed v) } := rfl

theorem exec_valueToRh (v : Byte) (s : State) :
    exec (.valueToRh v) s = .next { s with ret := .tval (valueToRh v) } := rfl

theorem exec_valueToTemp (v : Byte) (s : State) :
    exec (.valueToTemp v) s = .next { s with ret := .int (valueToTemp s.params v) } := rfl

theorem exec_valueToDuty (v : Byte) (s : State) :
    exec (.valueToDuty v) s = .next { s with ret := .tval (valueToDuty v) } := rfl

theorem exec_valueRaw (v : Byte) (s : State) :
    exec (.valueRaw v) s = .next { s with ret := .int (valueRaw v) } := rfl

theorem exec_kindOf (r : Byte) (s : State) :
    exec (.kindOf r) s = .next { s with ret := .kind (kindOf s.params r) } := rfl

theorem exec_translate (r v : Byte) (s : State) :
    exec (.translate r v) s = .next { s with ret := .tval (translate s.params r v) } := rfl

/-! ### Speed levels and their patterns (spec/41_translator.md R142, R143) -/

/-- The pattern of level n is 2^n - 1, which a byte holds up to n = 8. -/
theorem speedRom_toNat {n : Nat} (h : n ≤ 8) : (speedRom n).toNat = 2 ^ n - 1 := by
  have hpow : 2 ^ n ≤ 2 ^ 8 := Nat.pow_le_pow_right (by decide) h
  rw [speedRom, BitVec.toNat_ofNat, Nat.mod_eq_of_lt (by omega)]

theorem eq_speedRom_iff {n : Nat} (h : n ≤ 8) (v : Byte) : v = speedRom n ↔ v.toNat = 2 ^ n - 1 := by
  rw [← BitVec.toNat_inj, speedRom_toNat h]

theorem valueToSpeed_speedRom {n : Nat} (h1 : 1 ≤ n) (h8 : n ≤ 8) : valueToSpeed (speedRom n) = n := by
  interval_cases n <;> rfl

/-- The eight bytes that VALUE_TO_SPEED tests are the patterns of the levels. -/
theorem valueToSpeed_eq (v : Byte) : valueToSpeed v =
    if v = speedRom 1 then 1 else if v = speedRom 2 then 2 else if v = speedRom 3 then 3 else if v = speedRom 4 then 4
    else if v = speedRom 5 then 5 else if v = speedRom 6 then 6 else if v = speedRom 7 then 7
    else if v = speedRom 8 then 8 else -1 := rfl

theorem valueToSpeed_of_no_pattern {v : Byte} (h : ∀ n, 1 ≤ n → n ≤ 8 → v ≠ speedRom n) : valueToSpeed v = -1 := by
  rw [valueToSpeed_eq]
  split_ifs with hv hv hv hv hv hv hv hv
  case neg => rfl
  all_goals exact absurd hv (h _ (by decide) (by decide))

/-- Only the pattern of a level comes out of SPEED_TO_VALUE for it. -/
theorem exec_speedToValue_eq_byte_iff {n : Nat} (h1 : 1 ≤ n) (h8 : n ≤ 8) (v : Byte) (s : State) :
    exec (.speedToValue n) s = .next { s with ret := .byte v } ↔ v = speedRom n := by
  have hexec := exec_speedToValue_of_level (n := n) ⟨by omega, by omega⟩ s
  rw [Int.toNat_natCast] at hexec
  constructor
  · intro h
    injection hexec.symm.trans h with hs
    cases congrArg State.ret hs
    rfl
  · rintro rfl
    exact hexec

/-! ### Humidity (spec/41_translator.md R144) -/

/-- The floor expression of R144 rounds to the nearest integer. No tie is possible: a tie would make an even number equal
to an odd one. -/
theorem humidity_floor_nearest (u : Nat) :
    2 * |51 * (((u * 5000 + 51) / 102 : Nat) : Int) - 2500 * (u : Int)| < 51 := by
  have hclose : |51 * (((u * 5000 + 51) / 102 : Nat) : Int) - 2500 * (u : Int)| ≤ 25 := abs_le.2 (by omega)
  omega

/-! ### Temperature (spec/41_translator.md R145) -/

theorem tempTable_getElem? (p : Params) (v : Byte) : p.tempTable[v.toNat]? = some (valueToTemp p v) :=
  Vector.getElem?_eq_getElem v.isLt

/-- Neighbours in order put the whole table in order. -/
theorem valueToTemp_mono (h : p.tempLegal) {v w : Byte} (hvw : v.toNat ≤ w.toNat) :
    valueToTemp p v ≤ valueToTemp p w := by
  obtain ⟨-, -, hchain⟩ := h
  have hsorted : p.tempTable.toList.Pairwise (· ≤ ·) := List.isChain_iff_pairwise.1 hchain
  rcases Nat.eq_or_lt_of_le hvw with heq | hlt
  · rw [BitVec.eq_of_toNat_eq heq]
  · have hle := List.pairwise_iff_getElem.1 hsorted v.toNat w.toNat (by simpa using v.isLt) (by simpa using w.isLt) hlt
    simpa [valueToTemp] using hle

/-! ### Kinds (spec/41_translator.md R141) -/

/-- The register ids that have a Kind by their role; the default kind has none of its own. -/
def kindRegs (p : Params) : Kind → List Byte
  | .fanSpeed => [p.regFanSpeedCurrent, p.regFanSpeedDefault, p.regFanSpeedMax]
  | .rh => [p.regRhMax, p.regRh1, p.regRh2, p.regBasicHumidity]
  | .temp => [p.regTempOutdoor, p.regTempExhaustIn, p.regTempExhaustOut, p.regTempSupply, p.regPostHeatingTarget,
      p.regPostHeatingSetpoint, p.regPreheating, p.regBypass]
  | .duty => [p.regPostHeatingOnTime, p.regPostHeatingOffTime]
  | .byDefault => []

theorem kindOf_eq (p : Params) (r : Byte) :
    kindOf p r = if r ∈ kindRegs p .fanSpeed then .fanSpeed else if r ∈ kindRegs p .rh then .rh
      else if r ∈ kindRegs p .temp then .temp else if r ∈ kindRegs p .duty then .duty else .byDefault := rfl

/-- The sets of the four Kinds stand apart in the list of the named ids, the program flags between them. -/
theorem kindRegs_disjoint (h : p.namedRegs.Nodup) :
    [kindRegs p .fanSpeed, kindRegs p .rh, kindRegs p .temp, kindRegs p .duty].Pairwise List.Disjoint := by
  have hnamed : p.namedRegs = kindRegs p .fanSpeed ++ p.regProgramFlags
      :: [kindRegs p .rh, kindRegs p .temp, kindRegs p .duty].flatten := rfl
  rw [hnamed] at h
  exact (List.nodup_flatten.1 (h.sublist ((List.Sublist.refl _).append (List.sublist_cons_self _ _)))).2

/-- An answer other than the default kind comes from that Kind's set. -/
theorem mem_kindRegs_of_kindOf {k : Kind} (hk : k ≠ .byDefault) (h : kindOf p r = k) : r ∈ kindRegs p k := by
  subst h
  revert hk
  rw [kindOf_eq]
  split_ifs with hfan hrh htemp hduty
  · exact fun _ => hfan
  · exact fun _ => hrh
  · exact fun _ => htemp
  · exact fun _ => hduty
  · exact fun hk => absurd rfl hk

/-- A member of one set passes the tests for the sets before it, with which its own is disjoint. -/
theorem kindOf_of_mem_kindRegs (hnd : p.namedRegs.Nodup) {k : Kind} (h : r ∈ kindRegs p k) : kindOf p r = k := by
  have hdisjoint := kindRegs_disjoint hnd
  simp only [List.pairwise_cons, List.mem_cons, List.not_mem_nil, or_false, forall_eq_or_imp, forall_eq] at hdisjoint
  obtain ⟨⟨hfanRh, hfanTemp, hfanDuty⟩, ⟨hrhTemp, hrhDuty⟩, htempDuty, -⟩ := hdisjoint
  rw [kindOf_eq]
  cases k with
  | fanSpeed => rw [if_pos h]
  | rh => rw [if_neg (hfanRh · h), if_pos h]
  | temp => rw [if_neg (hfanTemp · h), if_neg (hrhTemp · h), if_pos h]
  | duty => rw [if_neg (hfanDuty · h), if_neg (hrhDuty · h), if_neg (htempDuty · h), if_pos h]
  | byDefault => cases h

theorem kindOf_eq_iff (hnd : p.namedRegs.Nodup) {k : Kind} (hk : k ≠ .byDefault) :
    kindOf p r = k ↔ r ∈ kindRegs p k :=
  ⟨mem_kindRegs_of_kindOf hk, kindOf_of_mem_kindRegs hnd⟩

theorem exec_kindOf_eq_iff (r : Byte) (k : Kind) (s : State) :
    exec (.kindOf r) s = .next { s with ret := .kind k } ↔ kindOf s.params r = k := by
  rw [exec_kindOf]
  constructor
  · intro h
    injection h with hs
    cases congrArg State.ret hs
    rfl
  · rintro rfl
    rfl

/-! ### The statements -/

/-- Settles O9: T is the conversion itself, and the range lies between the two ends because the table is in order. -/
theorem temperatureIsTableEntry : Obligations.TemperatureIsTableEntry := by
  intro s
  refine ⟨valueToTemp s.params, fun v => ⟨exec_valueToTemp v s, tempTable_getElem? s.params v⟩, fun hlegal => ?_⟩
  have ⟨hfirst, hlast, _⟩ := hlegal
  have h0 : valueToTemp s.params 0 = -74 := hfirst
  have h255 : valueToTemp s.params 255 = 100 := hlast
  refine ⟨h0, h255, fun v w => valueToTemp_mono hlegal, fun v => ⟨?_, ?_⟩⟩
  · rw [← h0]
    exact valueToTemp_mono hlegal (Nat.zero_le _)
  · rw [← h255]
    exact valueToTemp_mono hlegal (Nat.le_of_lt_succ v.isLt)

/-- Settles O11: the four sets are disjoint, and 0 is in none of them. -/
theorem kindOfRegister : Obligations.KindOfRegister := by
  intro r s ⟨hnd, hzero, _⟩
  refine ⟨kindOf s.params r, exec_kindOf r s, kindOf_eq_iff hnd (by decide), kindOf_eq_iff hnd (by decide),
    kindOf_eq_iff hnd (by decide), kindOf_eq_iff hnd (by decide), ?_⟩
  rintro rfl
  exact kindOf_of_not_named hzero

/-- Settles O6: a level in the range has its pattern, any other is taken as InvalidSpeedLevel. -/
theorem speedPatternOfLevel : Obligations.SpeedPatternOfLevel := by
  intro n s
  split_ifs with hn
  · exact exec_speedToValue_of_level hn s
  · exact exec_speedToValue_of_bad_level hn s

/-- Settles O7: a byte that is 2^n - 1 is the pattern of level n, which the conversion brings back. -/
theorem levelOfSpeedPattern : Obligations.LevelOfSpeedPattern := by
  intro v s
  refine ⟨valueToSpeed v, exec_valueToSpeed v s, fun n h1 h8 hv => ?_, fun hnone => ?_, fun n h1 h8 hexec => ?_⟩
  · obtain rfl := (eq_speedRom_iff h8 v).2 hv
    rw [valueToSpeed_speedRom h1 h8]
    exact ⟨rfl, (exec_speedToValue_eq_byte_iff h1 h8 _ s).2 rfl⟩
  · exact valueToSpeed_of_no_pattern fun n h1 h8 hv => hnone n h1 h8 ((eq_speedRom_iff h8 v).1 hv)
  · lift n to Nat using by omega
    obtain rfl := (exec_speedToValue_eq_byte_iff (by omega) (by omega) v s).1 hexec
    exact valueToSpeed_speedRom (by omega) (by omega)

/-- Settles O8: by the rounding of the floor expression at v + 51; the range is that of the expression. -/
theorem humidityIsNearestHundredth : Obligations.HumidityIsNearestHundredth := by
  intro v s
  refine ⟨_, exec_valueToRh v s, ?nearest, ?range⟩
  case nearest => exact_mod_cast humidity_floor_nearest (v.toNat + 51)
  case range =>
    have hv := v.isLt
    omega

/-- Settles O10: 4v tenths are v / 2.5 since 4 / 10 = 2 / 5. -/
theorem dutyAndRawValues : Obligations.DutyAndRawValues := by
  intro v s
  have hduty : valueToDuty v = .fix (4 * (v.toNat : Int)) .tenths := by simp [valueToDuty]
  refine ⟨hduty ▸ exec_valueToDuty v s, ?_, exec_valueRaw v s⟩
  simp only [tvalRat, scaleFactor]
  push_cast
  ring

/-- Settles O12: what KIND_OF answers is what TRANSLATE chooses by. -/
theorem translateFollowsKind : Obligations.TranslateFollowsKind := by
  intro r v s
  simp only [exec_kindOf_eq_iff]
  refine ⟨translate s.params r v, fun u hu => ?anywhere, fun hk => ?fanSpeed, fun hk => ?rh, fun hk => ?temp,
    fun hk => ?duty, fun hk => ?byDefault⟩
  case anywhere => rw [exec_translate, hu]
  all_goals simp only [translate, hk]
  case fanSpeed => exact ⟨_, rfl, exec_valueToSpeed v s⟩
  case rh => exact exec_valueToRh v s
  case temp => exact ⟨_, rfl, exec_valueToTemp v s⟩
  case duty => exact exec_valueToDuty v s
  case byDefault => exact ⟨_, rfl, exec_valueRaw v s⟩

end Sys2Proof.Machine
end

section
/-! SUPPORT. The framing engine (spec/42_framing.md): one equation per step of RX in RX_SCAN and RX_ENQ, the induction
that follows the branches of SCAN, and the two tied together turn by turn. -/

namespace Sys2Proof.Machine

variable {s : State} {buf : List Byte} {w : Frame}

/-! ### The steps of the engine (spec/42_framing.md R173 to R175; spec/43_session.md R195) -/

theorem exec_rxAccept (hph : s.core.rxPhase = .rxScan) (hw : window s.core.rxbuf = some w) (hv : valid w = true) :
    exec .rxAccept s = .next { s with core := { s.core with
      evr := mkEvent s.params s.now w
      rxbuf := s.core.rxbuf.drop 6
      rxPhase := .rxEnq } } := by
  simp only [exec, execRxAccept, hw, fire, hph, hv]
  rfl

/-- The disposition of ChecksumMismatch leaves no trace: the slip only drops its byte. -/
theorem exec_rxSlip (hph : s.core.rxPhase = .rxScan) (hw : window s.core.rxbuf = some w) (hv : valid w = false) :
    exec .rxSlip s = .next { s with core := { s.core with rxbuf := s.core.rxbuf.drop 1 } } := by
  simp only [exec, execRxSlip, hw, fire, hph, hv]
  rfl

theorem winReady_eq_false_iff {c : Session} : c.winReady = false ↔ window c.rxbuf = none := by
  rw [window_eq_none_iff, Session.winReady, decide_eq_false_iff_not, Nat.not_le]

theorem exec_rxScanEnd (hph : s.core.rxPhase = .rxScan) (hw : window s.core.rxbuf = none) :
    exec .rxScanEnd s = .next { s with core := { s.core with rxPhase := .rxTop } } := by
  simp only [exec, execRxScanEnd, fire, hph, winReady_eq_false_iff.2 hw]
  rfl

theorem evqFull_eq_false_iff {c : Session} : c.evqFull = false ↔ c.evq.length < 100 := by
  rw [Session.evqFull, decide_eq_false_iff_not, Nat.not_le, Config.evqCap]

theorem exec_rxEnq (hph : s.core.rxPhase = .rxEnq) (hroom : s.core.evq.length < 100) :
    exec .rxEnq s = .next { s with core := { s.core with evq := s.core.evq ++ [s.core.evr], rxPhase := .rxScan } } := by
  simp only [exec, execRxEnq, fire, hph, evqFull_eq_false_iff.2 hroom]
  rfl

/-! ### The single steps -/

/-- Settles O21: the six bytes are a window, valid by the sum, and MK_EVENT takes its value from TRANSLATE. -/
theorem rxAcceptConsumesSix : Obligations.RxAcceptConsumesSix := by
  intro s y so d r v c rest hph hbuf hsum
  have hw : window s.core.rxbuf = some ⟨y, so, d, r, v, c⟩ := by rw [hbuf]; rfl
  have hv : valid ⟨y, so, d, r, v, c⟩ = true :=
    (valid_iff _).2 (BitVec.eq_of_toNat_eq (hsum.trans (checksum_toNat y so d r v).symm))
  refine ⟨translate s.params r v, exec_translate r v s, ?_⟩
  rw [exec_rxAccept hph hw hv, hbuf]
  rfl

/-- Settles O22: the six bytes are a window, invalid by the sum. -/
theorem rxSlipDiscardsOne : Obligations.RxSlipDiscardsOne := by
  intro s y so d r v c rest hph hbuf hsum
  have hw : window s.core.rxbuf = some ⟨y, so, d, r, v, c⟩ := by rw [hbuf]; rfl
  rw [exec_rxSlip hph hw ((valid_eq_false_iff _).2 hsum), hbuf]
  rfl

/-- Settles O23: fewer than six bytes are no window. -/
theorem rxScanEndKeepsPartialBytes : Obligations.RxScanEndKeepsPartialBytes :=
  fun _ hph hl => exec_rxScanEnd hph ((window_eq_none_iff _).2 hl)

/-! ### Induction along SCAN (spec/42_framing.md R172) -/

/-- What holds where SCAN stops, and of a buffer as soon as it holds of what SCAN goes on with, holds of every
buffer. -/
theorem scan_induction {P : List Byte → Prop} (stop : ∀ buf, window buf = none → P buf)
    (accept : ∀ buf w, window buf = some w → valid w = true → P (buf.drop 6) → P buf)
    (slip : ∀ buf w, window buf = some w → valid w = false → P (buf.drop 1) → P buf) (buf : List Byte) : P buf := by
  induction hn : buf.length using Nat.strongRecOn generalizing buf with
  | ind n ih =>
    have shorter : ∀ k, 0 < k → 6 ≤ buf.length → P (buf.drop k) := fun k hk hl =>
      ih (buf.drop k).length (by rw [List.length_drop]; omega) _ rfl
    cases hw : window buf with
    | none => exact stop buf hw
    | some w =>
      have hl := length_of_window hw
      cases hv : valid w with
      | true => exact accept buf w hw hv (shorter 6 (by decide) hl)
      | false => exact slip buf w hw hv (shorter 1 (by decide) hl)

/-- Settles O59: bytes behind a window change neither it nor what SCAN does with it, so the whole stream is scanned as
its first part until no window is left there. -/
theorem scanIgnoresChunking : Obligations.ScanIgnoresChunking := by
  intro a b
  induction a using scan_induction with
  | stop a hw => rw [scan_of_no_window hw, List.nil_append]
  | accept a w hw hv ih =>
    rw [scan_of_valid (window_append b hw) hv, List.drop_append_of_le_length (length_of_window hw), ih,
      scan_of_valid hw hv]
    rfl
  | slip a w hw hv ih =>
    have hl : 1 ≤ a.length := le_trans (by decide) (length_of_window hw)
    rw [scan_of_invalid (window_append b hw) hv, List.drop_append_of_le_length hl, ih, scan_of_invalid hw hv]

/-! ### The pieces that SCAN takes (spec/42_framing.md R176) -/

/-- The piece that one iteration takes from the head of a buffer: the frame of a valid window there, or the first byte
of an invalid one. -/
def Piece.HeadOf (p : Piece) (buf : List Byte) : Prop :=
  ∃ w, window buf = some w ∧ (p = .frame w ∧ valid w = true ∨ p = .slip w.system ∧ valid w = false)

/-- `CutsInto buf pieces rest`: iterations of SCAN take these pieces from the buffer, in order, and leave `rest`. -/
inductive CutsInto : List Byte → List Piece → List Byte → Prop
  | stop {buf : List Byte} (hw : window buf = none) : CutsInto buf [] buf
  | take {p : Piece} {buf : List Byte} {pieces : List Piece} {rest : List Byte} (hp : p.HeadOf (p.bytes ++ buf))
      (tail : CutsInto buf pieces rest) : CutsInto (p.bytes ++ buf) (p :: pieces) rest

@[simp] theorem accepted_cons_frame (f : Frame) (pieces : List Piece) :
    (Piece.frame f :: pieces).filterMap Piece.accepted = f :: pieces.filterMap Piece.accepted := rfl

@[simp] theorem accepted_cons_slip (b : Byte) (pieces : List Piece) :
    (Piece.slip b :: pieces).filterMap Piece.accepted = pieces.filterMap Piece.accepted := rfl

theorem eq_system_cons_of_window (h : window buf = some w) : buf = w.system :: buf.drop 1 := by
  rw [(window_eq_some_iff buf w).1 h]
  rfl

theorem exists_cutsInto (buf : List Byte) : ∃ pieces rest, CutsInto buf pieces rest := by
  induction buf using scan_induction with
  | stop buf hw => exact ⟨[], buf, .stop hw⟩
  | accept buf w hw hv ih =>
    obtain ⟨pieces, rest, tail⟩ := ih
    have hbuf : buf = (Piece.frame w).bytes ++ buf.drop 6 := (window_eq_some_iff buf w).1 hw
    refine ⟨.frame w :: pieces, rest, ?_⟩
    rw [hbuf] at hw ⊢
    exact .take ⟨w, hw, .inl ⟨rfl, hv⟩⟩ tail
  | slip buf w hw hv ih =>
    obtain ⟨pieces, rest, tail⟩ := ih
    have hbuf : buf = (Piece.slip w.system).bytes ++ buf.drop 1 := eq_system_cons_of_window hw
    refine ⟨.slip w.system :: pieces, rest, ?_⟩
    rw [hbuf] at hw ⊢
    exact .take ⟨w, hw, .inr ⟨rfl, hv⟩⟩ tail

namespace CutsInto

variable {pieces before behind : List Piece} {rest : List Byte} {p : Piece}

theorem bytes_eq (h : CutsInto buf pieces rest) : buf = pieces.flatMap Piece.bytes ++ rest := by
  induction h with
  | stop => rfl
  | take _ _ ih => rw [List.flatMap_cons, List.append_assoc, ← ih]

theorem rest_length_le (h : CutsInto buf pieces rest) : rest.length ≤ 5 := by
  induction h with
  | stop hw => exact Nat.le_of_lt_succ ((window_eq_none_iff _).1 hw)
  | take _ _ ih => exact ih

theorem scan_eq (h : CutsInto buf pieces rest) : scan buf = (pieces.filterMap Piece.accepted, rest) := by
  induction h with
  | stop hw => exact scan_of_no_window hw
  | take hp _ ih =>
    obtain ⟨w, hw, ⟨rfl, hv⟩ | ⟨rfl, hv⟩⟩ := hp
    · rw [scan_of_valid hw hv]
      simp [Piece.bytes, frameBytes, ih]
    · rw [scan_of_invalid hw hv]
      simp [Piece.bytes, ih]

/-- Each piece is what one iteration takes from the bytes at its place. -/
theorem headOf_of_split (h : CutsInto buf (before ++ p :: behind) rest) :
    p.HeadOf (p.bytes ++ behind.flatMap Piece.bytes ++ rest) := by
  induction before generalizing buf with
  | nil =>
    cases h with
    | take hp tail => rwa [tail.bytes_eq, ← List.append_assoc] at hp
  | cons q before ih =>
    cases h with
    | take _ tail => exact ih tail

theorem valid_of_accepted {f : Frame} (h : CutsInto buf pieces rest) (hf : f ∈ pieces.filterMap Piece.accepted) :
    valid f = true := by
  induction h with
  | stop => cases hf
  | take hp _ ih =>
    obtain ⟨w, -, ⟨rfl, hv⟩ | ⟨rfl, -⟩⟩ := hp
    · rcases List.mem_cons.1 hf with rfl | hf
      · exact hv
      · exact ih hf
    · exact ih hf

end CutsInto

/-- A frame among the pieces counts six bytes and any other piece one. -/
theorem length_bytes_pieces (pieces : List Piece) :
    (pieces.flatMap Piece.bytes).length
      = 6 * (pieces.filterMap Piece.accepted).length + (pieces.length - (pieces.filterMap Piece.accepted).length) := by
  induction pieces with
  | nil => rfl
  | cons p pieces ih =>
    have hle := List.length_filterMap_le Piece.accepted pieces
    cases p <;> simp [Piece.bytes, frameBytes, ih] <;> omega

/-- Settles O60: the pieces are those of the cut along which SCAN runs. -/
theorem scanAccountsForEveryByte : Obligations.ScanAccountsForEveryByte := by
  intro buf fs rest hscan
  obtain ⟨pieces, left, hcut⟩ := exists_cutsInto buf
  obtain ⟨rfl, rfl⟩ := Prod.mk.inj (hcut.scan_eq.symm.trans hscan)
  refine ⟨hcut.rest_length_le, fun f hf => hcut.valid_of_accepted hf, pieces, hcut.bytes_eq, rfl, ?count, ?places⟩
  case count =>
    rw [← length_bytes_pieces, ← List.length_append, ← hcut.bytes_eq]
  case places =>
    rintro before p behind rfl
    exact hcut.headOf_of_split

/-! ### The turns of RX compute SCAN (spec/42_framing.md R172) -/

/-- The state once the window `w` at the head has been accepted and its event is in EVQ. -/
def State.withAccepted (s : State) (w : Frame) : State :=
  { s with core := { s.core with
    evr := mkEvent s.params s.now w
    rxbuf := s.core.rxbuf.drop 6
    evq := s.core.evq ++ [mkEvent s.params s.now w]
    rxPhase := .rxScan } }

/-- Some number of RX turns, placed alone on the agenda, takes the current session to `c` and changes nothing else of
the state. -/
def RxTurnsLead (s : State) (c : Session) : Prop :=
  ∃ n, Sys2Proof.core.run n { s with agenda := List.replicate n (.agent .rx) }
    = .next { s with agenda := [], core := c }

theorem run_succ_of_step {M : Host.Core} {s t : M.State} (n : Nat) (h : M.step s = .next t) :
    M.run (n + 1) s = M.run n t := by
  simp only [Host.Core.run, h]

namespace RxTurnsLead

theorem refl (s : State) : RxTurnsLead s s.core := ⟨0, rfl⟩

/-- One more turn before: the selected step of RX, which neither reads nor writes the agenda. -/
theorem turn {i : Instr} {c c' : Session} (hsel : rxSelect s = some i)
    (hexec : ∀ agenda, exec i { s with agenda := agenda } = .next { s with agenda := agenda, core := c' })
    (h : RxTurnsLead { s with core := c' } c) : RxTurnsLead s c := by
  obtain ⟨n, hrun⟩ := h
  have hstep : step { s with agenda := List.replicate (n + 1) (.agent .rx) }
      = .next { s with agenda := List.replicate n (.agent .rx), core := c' } :=
    (step_agent (s := { s with agenda := List.replicate (n + 1) (.agent .rx) }) (a := .rx) rfl hsel).trans (hexec _)
  exact ⟨n + 1, (run_succ_of_step (M := Sys2Proof.core) n hstep).trans hrun⟩

theorem scanEnd {c : Session} (hph : s.core.rxPhase = .rxScan) (hw : window s.core.rxbuf = none)
    (h : RxTurnsLead { s with core := { s.core with rxPhase := .rxTop } } c) : RxTurnsLead s c :=
  h.turn (rxSelect_rxScanEnd.2 ⟨hph, winReady_eq_false_iff.2 hw⟩)
    fun agenda => exec_rxScanEnd (s := { s with agenda := agenda }) hph hw

theorem slip {c : Session} (hph : s.core.rxPhase = .rxScan) (hw : window s.core.rxbuf = some w) (hv : valid w = false)
    (h : RxTurnsLead { s with core := { s.core with rxbuf := s.core.rxbuf.drop 1 } } c) : RxTurnsLead s c :=
  h.turn (rxSelect_rxSlip.2 ⟨hph, w, hw, hv⟩)
    fun agenda => exec_rxSlip (s := { s with agenda := agenda }) hph hw hv

theorem accept {c : Session} (hph : s.core.rxPhase = .rxScan) (hw : window s.core.rxbuf = some w)
    (hv : valid w = true)
    (h : RxTurnsLead { s with core := { s.core with
      evr := mkEvent s.params s.now w
      rxbuf := s.core.rxbuf.drop 6
      rxPhase := .rxEnq } } c) : RxTurnsLead s c :=
  h.turn (rxSelect_rxAccept.2 ⟨hph, w, hw, hv⟩)
    fun agenda => exec_rxAccept (s := { s with agenda := agenda }) hph hw hv

theorem enq {c : Session} (hph : s.core.rxPhase = .rxEnq) (hroom : s.core.evq.length < 100)
    (h : RxTurnsLead { s with core := { s.core with evq := s.core.evq ++ [s.core.evr], rxPhase := .rxScan } } c) :
    RxTurnsLead s c :=
  h.turn (rxSelect_rxEnq.2 ⟨hph, evqFull_eq_false_iff.2 hroom⟩)
    fun agenda => exec_rxEnq (s := { s with agenda := agenda }) hph hroom

/-- An accepted frame takes two turns, RX.ACCEPT and RX.ENQ. -/
theorem acceptEnq {c : Session} (hph : s.core.rxPhase = .rxScan) (hw : window s.core.rxbuf = some w)
    (hv : valid w = true) (hroom : s.core.evq.length < 100) (h : RxTurnsLead (s.withAccepted w) c) :
    RxTurnsLead s c :=
  accept hph hw hv (enq rfl hroom h)

end RxTurnsLead

/-- The current session after the scan of its buffer. -/
def scanned (s : State) : Session :=
  { s.core with
    rxPhase := .rxTop
    rxbuf := (scan s.core.rxbuf).2
    evq := s.core.evq ++ (scan s.core.rxbuf).1.map (mkEvent s.params s.now)
    evr := ((scan s.core.rxbuf).1.getLast?.map (mkEvent s.params s.now)).getD s.core.evr }

theorem scanned_of_no_window (hw : window s.core.rxbuf = none) : scanned s = { s.core with rxPhase := .rxTop } := by
  simp [scanned, scan_of_no_window hw]

theorem scanned_of_invalid (hw : window s.core.rxbuf = some w) (hv : valid w = false) :
    scanned s = scanned { s with core := { s.core with rxbuf := s.core.rxbuf.drop 1 } } := by
  simp only [scanned, scan_of_invalid hw hv]

/-- EVR holds the event of the last accepted frame, here at least that of `w`. -/
theorem scanned_of_valid (hw : window s.core.rxbuf = some w) (hv : valid w = true) :
    scanned s = scanned (s.withAccepted w) := by
  simp [scanned, State.withAccepted, scan_of_valid hw hv, List.getLast?_cons, Option.getD_map]

/-- From RX_SCAN with room for the events, RX turns lead to the scanned session. -/
theorem rxTurnsLead_scanned (s : State) (hph : s.core.rxPhase = .rxScan)
    (hroom : s.core.evq.length + (scan s.core.rxbuf).1.length ≤ 100) : RxTurnsLead s (scanned s) := by
  induction hbuf : s.core.rxbuf using scan_induction generalizing s with
  | stop buf hw =>
    subst hbuf
    rw [scanned_of_no_window hw]
    exact .scanEnd hph hw (.refl _)
  | accept buf w hw hv ih =>
    subst hbuf
    rw [scan_of_valid hw hv, List.length_cons] at hroom
    rw [scanned_of_valid hw hv]
    refine .acceptEnq hph hw hv (by omega) (ih _ rfl ?_ rfl)
    simp only [State.withAccepted, List.length_append, List.length_singleton]
    omega
  | slip buf w hw hv ih =>
    subst hbuf
    rw [scan_of_invalid hw hv] at hroom
    rw [scanned_of_invalid hw hv]
    exact .slip hph hw hv (ih _ hph hroom rfl)

/-- Settles O58: the turns follow SCAN's branches one by one. -/
theorem rxTurnsComputeScan : Obligations.RxTurnsComputeScan := by
  intro s fs rest hph hscan hroom
  have hlead := rxTurnsLead_scanned s hph (by rwa [hscan])
  rwa [scanned, hscan] at hlead

end Sys2Proof.Machine
end

section
/-! SUPPORT. The two loops (spec/43_session.md): the steps of RX outside the framing engine and those of TX, the rate
limit that TX.GAPCHK and TX.STAMP keep together, and what a session may still send after shutdown. -/

namespace Sys2Proof.Machine

variable {s : State} {p : Params} {now : Nat} {c c' : Session}

/-! ### The steps of RX (spec/43_session.md R191 to R194) -/

/-- A step whose guard holds is its effect. -/
theorem fire_of_guard {g : Bool} (hg : g = true) (effect : Session → Session) :
    fire s g effect = .next (s.onCore effect) :=
  if_pos hg

theorem exec_rxReadOk {bytes : List Byte} {rest : List Offer} (hph : s.core.rxPhase = .rxRead)
    (hr : nextRead s.params.rxChunkMax s.core.line = some (.ok bytes, rest)) :
    exec .rxReadOk s = .next { s with core := { s.core with
      lastActivity := s.now
      rxbuf := s.core.rxbuf ++ bytes
      rxPhase := if bytes.isEmpty then .rxTop else .rxScan
      line := rest } } := by
  simp only [exec, execRxReadOk, hr]
  exact fire_of_guard (by simp [hph]) _

/-- The disposition of TransportReadFailure: RUNNING falls and RX halts, with nothing left of what the transport held. -/
theorem exec_rxReadFail {rest : List Offer} (hph : s.core.rxPhase = .rxRead) (hline : s.core.line = .fail :: rest) :
    exec .rxReadFail s
      = .next { s with core := { s.core with running := false, rxPhase := .rxHalt, line := [] } } := by
  simp only [exec, execRxReadFail, hline, nextRead_fail]
  exact fire_of_guard (by simp [hph]) _

theorem exec_mkEvent (t : Nat) (w : Frame) (s : State) :
    exec (.mkEvent t w) s = .next { s with ret := .event (mkEvent s.params t w) } := rfl

/-- A chunk that a read returns is no longer than RX_CHUNK_MAX (spec/10_state.md R45). -/
theorem length_le_of_nextRead {bytes : List Byte} {line rest : List Offer} {m : Nat}
    (h : nextRead (some m) line = some (.ok bytes, rest)) : bytes.length ≤ m := by
  rcases nextRead_cases h with ⟨hfail, -⟩ | ⟨whole, hok, -, hle⟩ | ⟨whole, k, tail, hk, -, hok, -, -⟩
  · cases hfail
  · cases hok
    exact hle m rfl
  · cases hk
    cases hok
    exact List.length_take_le m whole

/-- Settles O17: at each loop top the phase is the guard. -/
theorem loopTopsTestRunning : Obligations.LoopTopsTestRunning :=
  fun _ => ⟨fun hph => fire_of_guard (by simp [hph]) _, fun hph => fire_of_guard (by simp [hph]) _⟩

/-- Settles O18: an empty chunk and any other go to the phase that its length says. -/
theorem rxReadAppendsChunk : Obligations.RxReadAppendsChunk := by
  intro s bytes rest hph hr
  refine ⟨?step, fun m hm => length_le_of_nextRead (hm ▸ hr)⟩
  case step =>
    rw [exec_rxReadOk hph hr]
    cases bytes <;> rfl

/-- Settles O20: a close leaves the transport a failure alone, which is what RX then reads. -/
theorem rxReadFailureHalts : Obligations.RxReadFailureHalts := by
  refine ⟨fun s rest hph hline => exec_rxReadFail hph hline, fun s rest h => ?close⟩
  case close =>
    refine ⟨_, step_line h, rfl, nextRead_fail _ _, fun hph => ⟨?selected, exec_rxReadFail hph rfl⟩⟩
    exact rxSelect_rxReadFail.2 ⟨hph, [], nextRead_fail _ _⟩

/-- Settles O24: the equation of RX.ENQ. -/
theorem rxEnqueueAppendsEvent : Obligations.RxEnqueueAppendsEvent :=
  fun _ => exec_rxEnq

/-- Settles O13: the event that RX.ACCEPT leaves in EVR is the one that MK_EVENT returns for the window at NOW. -/
theorem eventOfWindow : Obligations.EventOfWindow := by
  intro t w s hv
  refine ⟨translate s.params w.register w.value, exec_translate _ _ s, exec_mkEvent t w s, fun rest hph hbuf => ?_⟩
  have hw : window s.core.rxbuf = some w := by rw [hbuf]; rfl
  exact ⟨_, exec_rxAccept hph hw hv, exec_mkEvent s.now w s⟩

/-! ### The steps of TX (spec/43_session.md R202 to R207) -/

/-- The gap is open once GAP has passed since LAST_ACTIVITY; it is not where LAST_ACTIVITY lies after NOW, because GAP is
not zero. -/
theorem Session.gapOpen_iff : c.gapOpen now = true ↔ c.lastActivity + Config.gap ≤ now := by
  rw [Session.gapOpen, decide_eq_true_eq, Config.gap]
  omega

/-- TX.GAPCHK's choice is the later of the two times. -/
theorem gapDeadline_eq_max (c : Session) (now : Nat) :
    (if c.gapOpen now then now else c.lastActivity + Config.gap) = max now (c.lastActivity + Config.gap) := by
  by_cases h : c.gapOpen now = true
  · rw [if_pos h, max_eq_left (Session.gapOpen_iff.1 h)]
  · rw [if_neg h, max_eq_right (Nat.le_of_not_le (mt Session.gapOpen_iff.2 h))]

/-- The truth table of the policy (spec/44_write_policy.md R230, R231). -/
theorem isWriteAllowed_iff (p : Params) (writeEn : Bool) (r : Byte) :
    isWriteAllowed p writeEn r = true ↔ r = 0x00 ∨ (writeEn = true ∧ (r = p.regFanSpeedCurrent ∨
      r = p.regFanSpeedDefault ∨ r = p.regFanSpeedMax ∨ r = p.regProgramFlags)) := by
  simp [isWriteAllowed, Config.queryMark, writeAllow]

theorem exec_txGatePass (hph : s.core.txPhase = .txGate) (hgate : s.gateOpen = true) :
    exec .txGatePass s = .next { s with core := { s.core with txPhase := .txGap } } :=
  fire_of_guard (by simp [hph, hgate]) _

/-- The disposition of WriteDenied: a DIAG record, and TX is back at the top. -/
theorem exec_txGateDeny (hph : s.core.txPhase = .txGate) (hgate : s.gateOpen = false) :
    exec .txGateDeny s = .next { s with core := { s.core with
      diag := s.core.diag ++ [.writeDenied s.core.txf]
      txPhase := .txTop } } :=
  fire_of_guard (by simp [hph, hgate]) _

/-- Settles O25: with a frame in CMDQ, the phase is the whole guard. -/
theorem txDequeueTakesOldest : Obligations.TxDequeueTakesOldest := by
  intro s f rest hph hq
  simp only [exec, execTxDeq, hq]
  exact fire_of_guard (by simp [hph]) _

/-- Settles O26: the policy on the register byte of TXF is the guard of TX.GATE_PASS, and its negation that of
TX.GATE_DENY. -/
theorem gateDecidesOnRegisterByte : Obligations.GateDecidesOnRegisterByte := by
  intro s hph
  have hgate := isWriteAllowed_iff s.params s.core.writeEn s.core.txf.register
  split
  case isTrue h => exact exec_txGatePass hph (hgate.2 h)
  case isFalse h => exact ⟨_, rfl, rfl, exec_txGateDeny hph (Bool.eq_false_of_not_eq_true (mt hgate.1 h))⟩

/-- Settles O27: the phase is the guard of TX.GAPCHK, and its choice is the maximum. -/
theorem txGapCheckSetsDeadline : Obligations.TxGapCheckSetsDeadline := by
  intro s hph
  rw [← Config.gap, ← gapDeadline_eq_max]
  exact fire_of_guard (by simp [hph]) _

/-- Settles O28: the phase and the deadline are the guard of TX.STAMP. -/
theorem txStampWritesActivity : Obligations.TxStampWritesActivity :=
  fun _ hph hdeadline => fire_of_guard (by simpa [hph] using hdeadline) _

/-- Settles O29: the phase is the guard of TX.WRITE. -/
theorem txWriteSendsFrame : Obligations.TxWriteSendsFrame :=
  fun _ hph => fire_of_guard (by simp [hph]) _

/-! ### The rate limit (spec/43_session.md R208) -/

theorem Session.Queues.keeps_paced {cap : Nat} {new : List Frame} (hq : Session.Queues cap new c c')
    (h : c.Paced now) : c'.Paced now := by
  obtain ⟨cmdq, callers, rfl, -, -⟩ := hq
  exact h

/-- Outside TX_WAIT the deadline does not matter. -/
theorem Session.Paced.of_not_waiting (h : c.Paced now) (hact : c'.lastActivity = c.lastActivity)
    (hstamps : c'.stamps = c.stamps) (hph : c'.txPhase ≠ .txWait) : c'.Paced now := by
  obtain ⟨hnow, hchain, hlast⟩ := h
  rw [← hact] at hnow hlast
  rw [← hstamps] at hchain hlast
  refine ⟨hnow, hchain, fun t ht => ?_⟩
  obtain ⟨hle, -⟩ := hlast t ht
  exact ⟨hle, fun hwait => absurd hwait hph⟩

/-- A later LAST_ACTIVITY, not after NOW, moves away from the last stamp. -/
theorem Session.Paced.touch (h : c.Paced now) : (c.touch now).Paced now := by
  obtain ⟨hnow, hchain, hlast⟩ := h
  refine ⟨Nat.le_refl now, hchain, fun t ht => ?_⟩
  obtain ⟨hle, hwait⟩ := hlast t ht
  exact ⟨hle.trans hnow, hwait⟩

/-- TX.GAPCHK: the last stamp is not after LAST_ACTIVITY, so the deadline is GAP after it. -/
theorem Session.Paced.gapchk (h : c.Paced now) :
    ((c.setDeadline (max now (c.lastActivity + Config.gap))).toTx .txWait).Paced now := by
  obtain ⟨hnow, hchain, hlast⟩ := h
  refine ⟨hnow, hchain, fun t ht => ?_⟩
  obtain ⟨hle, -⟩ := hlast t ht
  exact ⟨hle, fun _ => (Nat.add_le_add_right hle _).trans (Nat.le_max_right _ _)⟩

/-- TX.STAMP: the deadline has come, so NOW is GAP after the last stamp. -/
theorem Session.Paced.stamp (h : c.Paced now) (hph : c.txPhase = .txWait) (hdeadline : c.txDeadline ≤ now) :
    (((c.touch now).recordStamp now).toTx .txWrite).Paced now := by
  obtain ⟨-, hchain, hlast⟩ := h
  refine ⟨Nat.le_refl now, List.isChain_append.2 ⟨hchain, List.isChain_singleton now, ?gap⟩, ?last⟩
  case gap =>
    intro t ht u hu
    obtain ⟨-, hwait⟩ := hlast t ht
    obtain rfl : now = u := by simpa using hu
    exact (hwait hph).trans hdeadline
  case last =>
    intro t ht
    obtain rfl : now = t := by simpa using ht
    exact ⟨Nat.le_refl now, by simp⟩

/-- Every change of a session keeps the rate limit: only a read and TX.STAMP write LAST_ACTIVITY, only TX.STAMP records a
stamp, and only TX.GAPCHK sets TX waiting. -/
theorem CoreChange.keeps_paced (hc : CoreChange p now c c') (h : c.Paced now) : c'.Paced now := by
  cases hc with
  | rxReadOk bytes rest => exact h.touch
  | txGapchk =>
    rw [gapDeadline_eq_max]
    exact h.gapchk
  | txStamp hph hdeadline => exact h.stamp hph hdeadline
  | txTop => exact h.of_not_waiting rfl rfl (by rw [Session.toTx_txPhase]; split <;> decide)
  | txDeq | txGatePass | txGateDeny | txWrite => exact h.of_not_waiting rfl rfl (by simp)
  | call frames hv => exact (c.call_queues p.cmdqCap frames).keeps_paced h
  | resume k => exact (c.resume_queues p.cmdqCap k).keeps_paced h
  | same | rxTop | rxReadFail | rxAccept | rxSlip | rxScanEnd | rxEnq | badLevel | evPop | line => exact h

/-- Settles O50: every change of a session keeps the rate limit, a later clock keeps it, and an opened session has no
stamp. -/
theorem stampsStayFiftyMillisecondsApart : Obligations.StampsStayFiftyMillisecondsApart := by
  intro s t hs hstep
  refine step_keeps_eachSession (P := fun _ now c => c.Paced now) ?change ?later ?fresh hs hstep
  case change => exact fun _ _ _ _ h hc => hc.keeps_paced h
  case later =>
    rintro - now now' c hle ⟨hnow, hstamps⟩
    exact ⟨hnow.trans hle, hstamps⟩
  case fresh => exact fun cfg _ _ => openedSession_paced s cfg

/-! ### After shutdown (spec/43_session.md R210; spec/70_reset_and_hazards.md R328) -/

/-- TX at the top of its loop or halted has no frame under way. -/
theorem Session.sendBound_of_idle (h : c.txPhase = .txTop ∨ c.txPhase = .txHalt) : c.sendBound = c.wireOut.length := by
  rcases h with h | h <;> simp only [Session.sendBound, h, Nat.add_zero]

theorem Session.sendBound_of_busy (htop : c.txPhase ≠ .txTop) (hhalt : c.txPhase ≠ .txHalt) :
    c.sendBound = c.wireOut.length + 1 := by
  unfold Session.sendBound
  cases hph : c.txPhase with
  | txTop => exact absurd hph htop
  | txHalt => exact absurd hph hhalt
  | txDeq | txGate | txGap | txWait | txWrite => rfl

/-- The bound is that of a busy TX at most. -/
theorem Session.sendBound_le_sent_succ (c : Session) : c.sendBound ≤ c.wireOut.length + 1 := by
  by_cases h : c.txPhase = .txTop ∨ c.txPhase = .txHalt
  · rw [Session.sendBound_of_idle h]
    exact Nat.le_succ _
  · obtain ⟨htop, hhalt⟩ := not_or.1 h
    exact (Session.sendBound_of_busy htop hhalt).le

/-- A busy TX that sends nothing does not raise the bound, wherever it goes. -/
theorem Session.sendBound_le_of_busy (htop : c.txPhase ≠ .txTop) (hhalt : c.txPhase ≠ .txHalt)
    (hsent : c'.wireOut = c.wireOut) : c'.sendBound ≤ c.sendBound := by
  rw [Session.sendBound_of_busy htop hhalt, ← hsent]
  exact c'.sendBound_le_sent_succ

theorem Session.Queues.sendBound_eq {cap : Nat} {new : List Frame} (hq : Session.Queues cap new c c') :
    c'.sendBound = c.sendBound := by
  obtain ⟨cmdq, callers, rfl, -, -⟩ := hq
  rfl

/-- With RUNNING down TX.TOP halts, so TX takes up no further frame; TX.WRITE sends the one that was counted. -/
theorem CoreChange.sendBound_le (hc : CoreChange p now c c') (hrun : c.running = false) :
    c'.sendBound ≤ c.sendBound := by
  cases hc with
  | txTop hph =>
    rw [Session.sendBound_of_idle (.inl hph), hrun]
    exact (Session.sendBound_of_idle (.inr rfl)).le
  | txDeq _ _ hph | txGatePass hph | txGateDeny hph | txGapchk hph | txStamp hph =>
    exact Session.sendBound_le_of_busy (by simp [hph]) (by simp [hph]) rfl
  | txWrite hph =>
    rw [Session.sendBound_of_idle (.inl rfl), Session.sendBound_of_busy (by simp [hph]) (by simp [hph])]
    exact List.length_append.le
  | call frames hv => exact (c.call_queues p.cmdqCap frames).sendBound_eq.le
  | resume k => exact (c.resume_queues p.cmdqCap k).sendBound_eq.le
  | same | rxTop | rxReadOk | rxReadFail | rxAccept | rxSlip | rxScanEnd | rxEnq | badLevel | evPop | line =>
    exact Nat.le_refl _

/-- Settles O55: no change of the session raises RUNNING, and with RUNNING down none raises the bound. -/
theorem atMostOneFrameAfterShutdown : Obligations.AtMostOneFrameAfterShutdown := by
  intro s t hrun hstay hstep
  obtain ⟨hchange, -⟩ := step_cases_of_staysInSession hstay hstep
  have hdown : t.core.running = false :=
    Bool.eq_false_of_not_eq_true fun hup => by simp [hchange.persists.running hup] at hrun
  exact ⟨hdown, hchange.sendBound_le hrun⟩

end Sys2Proof.Machine
end

section
/-! SUPPORT. The write policy (spec/44_write_policy.md): what IS_WRITE_ALLOWED answers, and that every step keeps the
gate in front of the wire. -/

namespace Sys2Proof.Machine

variable {p : Params} {now : Nat} {c c' : Session}

/-! ### The truth table (spec/44_write_policy.md R230, R231) -/

theorem exec_isWriteAllowed (r : Byte) (s : State) :
    exec (.isWriteAllowed r) s = .next { s with ret := .bool (isWriteAllowed s.params s.core.writeEn r) } := rfl

/-- WRITE_ALLOW is the first four of the named ids. -/
theorem namedRegs_eq_writeAllow_append (p : Params) : p.namedRegs = writeAllow p ++ p.namedRegs.drop 4 := rfl

/-- The outdoor temperature is named after the four of WRITE_ALLOW, so distinct ids keep it out, and it is no query. -/
theorem isWriteAllowed_regTempOutdoor (h : p.regsLegal) (writeEn : Bool) :
    isWriteAllowed p writeEn p.regTempOutdoor = false := by
  obtain ⟨hdistinct, hzero, -⟩ := h
  rw [namedRegs_eq_writeAllow_append] at hdistinct
  have hbehind : p.regTempOutdoor ∈ p.namedRegs.drop 4 := by simp [Params.namedRegs]
  have hlist : p.regTempOutdoor ∉ writeAllow p := fun hin => List.disjoint_of_nodup_append hdistinct hin hbehind
  have hquery : p.regTempOutdoor ≠ Config.queryMark := ne_of_mem_of_not_mem (List.mem_of_mem_drop hbehind) hzero
  simp [isWriteAllowed, hquery, hlist]

/-- Settles O14: the policy is the condition of R230, and by distinctness of the ids that of the outdoor temperature
fails. -/
theorem writeAllowedTruthTable : Obligations.WriteAllowedTruthTable := by
  refine ⟨fun r s => ?table, fun s hlegal => ?outdoor⟩
  case table => simp only [exec_isWriteAllowed, ← isWriteAllowed_iff, Bool.decide_eq_true]
  case outdoor => rw [exec_isWriteAllowed, isWriteAllowed_regTempOutdoor hlegal]

/-! ### The gate (spec/44_write_policy.md R233) -/

theorem Session.Queues.keeps_gated {cap : Nat} {new : List Frame} (hq : Session.Queues cap new c c')
    (h : c.Gated p) : c'.Gated p := by
  obtain ⟨cmdq, callers, rfl, -, -⟩ := hq
  exact h

/-- Outside the phases past the gate the frame in hand does not matter. -/
theorem Session.Gated.of_not_pastGate (h : c.Gated p) (hsent : c'.wireOut = c.wireOut) (hen : c'.writeEn = c.writeEn)
    (hph : ¬c'.pastGate) : c'.Gated p := by
  obtain ⟨hwire, -⟩ := h
  rw [← hsent, ← hen] at hwire
  exact ⟨hwire, fun hpast => absurd hpast hph⟩

/-- Past the gate TX goes on with the frame that it holds. -/
theorem Session.Gated.of_pastGate (h : c.Gated p) (hpast : c.pastGate) (hsent : c'.wireOut = c.wireOut)
    (hen : c'.writeEn = c.writeEn) (htxf : c'.txf = c.txf) : c'.Gated p := by
  obtain ⟨hwire, hheld⟩ := h
  refine ⟨?_, fun _ => ?_⟩
  · rwa [hsent, hen]
  · rw [hen, htxf]
    exact hheld hpast

/-- TX.WRITE sends the frame that passed the gate. -/
theorem Session.Gated.write (h : c.Gated p) (hpast : c.pastGate) : ((c.lineWrite now).toTx .txTop).Gated p := by
  obtain ⟨hwire, hheld⟩ := h
  refine ⟨fun r hr => ?_, by simp [Session.pastGate]⟩
  rcases List.mem_append.1 hr with hr | hr
  · exact hwire r hr
  · rw [List.mem_singleton.1 hr]
    exact hheld hpast

/-- Every change of a session keeps the gate: only TX.GATE_PASS takes a frame past it, which has just been allowed; from
there TX holds that frame until TX.WRITE sends it, and no change turns writing off or on. -/
theorem CoreChange.keeps_gated (hc : CoreChange p now c c') (h : c.Gated p) : c'.Gated p := by
  cases hc with
  | txTop => exact h.of_not_pastGate rfl rfl (by rw [Session.pastGate, Session.toTx_txPhase]; split <;> decide)
  | txDeq | txGateDeny => exact h.of_not_pastGate rfl rfl (by simp [Session.pastGate])
  | txGatePass hph hallowed =>
    obtain ⟨hwire, -⟩ := h
    exact ⟨hwire, fun _ => hallowed⟩
  | txGapchk hph => exact h.of_pastGate (.inl hph) rfl rfl rfl
  | txStamp hph hdeadline => exact h.of_pastGate (.inr (.inl hph)) rfl rfl rfl
  | txWrite hph => exact h.write (.inr (.inr hph))
  | call frames hv => exact (c.call_queues p.cmdqCap frames).keeps_gated h
  | resume k => exact (c.resume_queues p.cmdqCap k).keeps_gated h
  | same | rxTop | rxReadOk | rxReadFail | rxAccept | rxSlip | rxScanEnd | rxEnq | badLevel | evPop | line => exact h

/-- Settles O49: every change of a session keeps the gate, the clock has no part in it, and an opened session has sent
nothing. -/
theorem gateHoldsOnEveryStep : Obligations.GateHoldsOnEveryStep := by
  intro s t hs hstep
  refine step_keeps_eachSession (P := fun p _ c => c.Gated p) ?change ?later ?fresh hs hstep
  case change => exact fun _ _ _ _ h hc => hc.keeps_gated h
  case later => exact fun _ _ _ _ _ h => h
  case fresh => exact fun cfg _ _ => openedSession_gated s cfg

end Sys2Proof.Machine
end

section
/-! SUPPORT. The commands of the host port (spec/45_commands.md): the equations of the builders, the filter and the
calls, and the run in which a call and its caller's turns put all its frames into CMDQ. -/

namespace Sys2Proof.Machine

variable {s : State} {c : Session} {cap k : Nat} {f : Frame} {fs : List Frame} {i : Instr} {n : Int} {reg : Byte}

/-! ### The operations (spec/45_commands.md R241 to R250, R261 to R263) -/

theorem exec_buildQuery (r : Byte) (s : State) :
    exec (.buildQuery r) s = .next { s with ret := .frame (buildQuery s.params s.core.clientAddr r) } := rfl

theorem exec_buildWrite (d r v : Byte) (s : State) :
    exec (.buildWrite d r v) s = .next { s with ret := .frame (buildWrite s.core.clientAddr d r v) } := rfl

theorem exec_forMe (ev : Event) (s : State) :
    exec (.forMe ev) s = .next { s with ret := .bool (forMe s.params s.core.clientAddr ev) } := rfl

theorem exec_query (r : Byte) (s : State) : exec (.query r) s = .next { s with
    core := s.core.call s.params.cmdqCap [buildQuery s.params s.core.clientAddr r] } := rfl

theorem exec_cmdPush (d r v : Byte) (s : State) : exec (.cmdPush d r v) s = .next { s with
    core := s.core.call s.params.cmdqCap [buildWrite s.core.clientAddr d r v] } := rfl

theorem exec_sendInit (s : State) : exec .sendInit s = .next { s with
    core := s.core.call s.params.cmdqCap (initQueries s.params s.core.clientAddr) } := rfl

theorem exec_evPop_of_cons {e : Event} {rest : List Event} (h : s.core.evq = e :: rest) :
    exec .evPop s = .next { s with core := { s.core with evq := rest }, ret := .event e } := by
  simp only [exec, execEvPop, h]
  rfl

theorem exec_evPop_of_nil (h : s.core.evq = []) : exec .evPop s = .next s := by
  simp only [exec, execEvPop, h]

theorem exec_status (s : State) : exec .status s = .next { s with ret := .running s.core.running } := rfl

/-- `i` is the speed command with level `n` that writes register `reg` (spec/45_commands.md R245 to R247). -/
def SpeedCommandOn (p : Params) (n : Int) (i : Instr) (reg : Byte) : Prop :=
  i = .setSpeed n ∧ reg = p.regFanSpeedCurrent ∨
    i = .setDefaultFanSpeed n ∧ reg = p.regFanSpeedDefault ∨
    i = .setMaxFanSpeed n ∧ reg = p.regFanSpeedMax

/-- The three speed commands differ in the register alone: each is the call of its two writes. -/
theorem exec_speedCommand_of_level (hn : 1 ≤ n ∧ n ≤ 8) (hi : SpeedCommandOn s.params n i reg) :
    exec i s = .next { s with
      core := s.core.call s.params.cmdqCap (speedFrames s.params s.core.clientAddr reg (speedRom n.toNat)) } := by
  have hcommand : exec i s = speedCommand reg n s := by
    rcases hi with ⟨rfl, rfl⟩ | ⟨rfl, rfl⟩ | ⟨rfl, rfl⟩ <;> rfl
  rw [hcommand, speedCommand, speedToValue_ok hn]
  rfl

/-! ### A call and its caller's turns (spec/45_commands.md R240, R264) -/

theorem Session.cmdqFull_eq_false_iff : c.cmdqFull cap = false ↔ c.cmdq.length < cap := by
  rw [Session.cmdqFull, decide_eq_false_iff_not, Nat.not_le]

theorem Session.call_cons_of_room (h : c.cmdq.length < cap) : c.call cap (f :: fs) = (c.cmdqPush f).park fs := by
  simp only [Session.call, Session.cmdqFull_eq_false_iff.2 h, Bool.false_eq_true, if_false]

theorem Session.call_cons_of_full (h : cap ≤ c.cmdq.length) :
    c.call cap (f :: fs) = { c with callers := c.callers ++ [f :: fs] } := by
  simp only [Session.call, Session.cmdqFull, decide_eq_true h, if_true, Session.park]

theorem Session.length_cmdqPush (c : Session) (f : Frame) : (c.cmdqPush f).cmdq.length = c.cmdq.length + 1 :=
  List.length_append

theorem Session.cmdqPush_park (c : Session) (f : Frame) (fs : List Frame) : (c.cmdqPush f).park fs = { c with
    cmdq := c.cmdq ++ [f]
    callers := if fs = [] then c.callers else c.callers ++ [fs] } := by
  cases fs <;> rfl

theorem Session.resume_of_room (hk : c.callers[k]? = some (f :: fs)) (h : c.cmdq.length < cap) :
    c.resume cap k = { c with
      cmdq := c.cmdq ++ [f]
      callers := if fs = [] then c.callers.eraseIdx k else c.callers.set k fs } := by
  simp only [Session.resume, hk, Session.cmdqFull_eq_false_iff.2 h, Bool.false_eq_true, if_false, List.isEmpty_iff]
  rfl

theorem Session.resume_of_full (h : cap ≤ c.cmdq.length) : c.resume cap k = c := by
  rcases c.resume_cases cap k with e | ⟨_, _, -, hroom, -⟩
  · exact e
  · omega

/-- A parked caller's turn pushes its next frame and parks it again with the rest. -/
theorem Session.resume_park (h : c.cmdq.length < cap) :
    (c.park (f :: fs)).resume cap c.callers.length = (c.cmdqPush f).park fs := by
  have hlast : (c.park (f :: fs)).callers[c.callers.length]? = some (f :: fs) := by simp [Session.park]
  rw [Session.resume_of_room hlast h, Session.cmdqPush_park]
  cases fs with
  | nil => simp [Session.park, List.eraseIdx_append_of_length_le]
  | cons g rest => simp [Session.park]

theorem step_caller {rest : List Turn} (h : s.agenda = .caller k :: rest) :
    step s = .next { s with agenda := rest, core := s.core.resume s.params.cmdqCap k } :=
  step_cons_of_no_instr h rfl

theorem run_of_step {t : State} (m : Nat) (h : step s = .next t) :
    Sys2Proof.core.run (m + 1) s = Sys2Proof.core.run m t :=
  run_succ_of_step (M := Sys2Proof.core) m h

/-- With room for all its frames, a parked caller's turns push them in order, and the caller is gone. -/
theorem run_callerTurns (s : State) (c : Session) (fs : List Frame)
    (hroom : c.cmdq.length + fs.length ≤ s.params.cmdqCap) :
    Sys2Proof.core.run fs.length
        { s with agenda := List.replicate fs.length (.caller c.callers.length), core := c.park fs }
      = .next { s with agenda := [], core := { c with cmdq := c.cmdq ++ fs } } := by
  induction fs generalizing c with
  | nil => simp only [Session.park, List.append_nil]; rfl
  | cons f fs ih =>
    rw [List.length_cons] at hroom
    have hpush : c.cmdq.length < s.params.cmdqCap := by omega
    have hstep : step
          { s with agenda := List.replicate (fs.length + 1) (.caller c.callers.length), core := c.park (f :: fs) }
        = .next
          { s with agenda := List.replicate fs.length (.caller c.callers.length), core := (c.cmdqPush f).park fs } := by
      rw [step_caller rfl, Session.resume_park hpush]
    have hrest := ih (c.cmdqPush f) (by rw [Session.length_cmdqPush]; omega)
    rw [Session.cmdqPush_cmdq, List.append_assoc] at hrest
    exact (run_of_step fs.length hstep).trans hrest

/-- With room for all its frames, a call and its caller's turns queue them in order and leave the other callers as they
were. -/
theorem run_call_callerTurns
    (hexec : ∀ agenda, exec i { s with agenda := agenda } = .next { s with
      agenda := agenda
      core := s.core.call s.params.cmdqCap (f :: fs) })
    (hroom : s.core.cmdq.length + (fs.length + 1) ≤ s.params.cmdqCap)
    (hagenda : s.agenda = .call i :: List.replicate fs.length (.caller s.core.callers.length)) :
    Sys2Proof.core.run (fs.length + 1) s
      = .next { s with agenda := [], core := { s.core with cmdq := s.core.cmdq ++ f :: fs } } := by
  have hstep : step s = .next { s with
      agenda := List.replicate fs.length (.caller s.core.callers.length)
      core := (s.core.cmdqPush f).park fs } := by
    rw [step_call hagenda, hexec, Session.call_cons_of_room (by omega)]
  have hrest := run_callerTurns s (s.core.cmdqPush f) fs (by rw [Session.length_cmdqPush]; omega)
  rw [Session.cmdqPush_cmdq, List.append_assoc] at hrest
  exact (run_of_step fs.length hstep).trans hrest

/-! ### The statements -/

/-- Settles O32: the command is a call of two writes, run through its caller's one turn. -/
theorem speedCommandQueuesBothFrames : Obligations.SpeedCommandQueuesBothFrames := by
  intro s n i reg h1 h8 hi hroom hagenda
  refine ⟨speedRom n.toNat, _, _, exec_speedToValue_of_level ⟨h1, h8⟩ s, exec_buildWrite _ _ _ s,
    exec_buildWrite _ _ _ s, ?_⟩
  exact run_call_callerTurns (fs := [_])
    (fun agenda => exec_speedCommand_of_level (s := { s with agenda := agenda }) ⟨h1, h8⟩ hi) hroom hagenda

/-- Settles O37: the burst is a call of the init queries, one per register of the catalogue; an empty one is no call. -/
theorem initBurstQueuesCatalog : Obligations.InitBurstQueuesCatalog := by
  intro s
  have hexec : ∀ agenda, exec .sendInit { s with agenda := agenda } = .next { s with
      agenda := agenda
      core := s.core.call s.params.cmdqCap (initQueries s.params s.core.clientAddr) } :=
    fun agenda => exec_sendInit { s with agenda := agenda }
  have hlength : (initQueries s.params s.core.clientAddr).length = s.params.catalog.length := List.length_map _
  refine ⟨initQueries s.params s.core.clientAddr, hlength, fun k hk => ?query, fun hnil => ?empty,
    fun f fs hcons => ?first, fun hroom hagenda => ?burst⟩
  case query => exact ⟨_, by simp [initQueries, hk], exec_buildQuery _ s⟩
  case empty =>
    rw [exec_sendInit, hnil]
    rfl
  case first =>
    rw [exec_sendInit, hcons]
    by_cases hroom : s.core.cmdq.length < s.params.cmdqCap
    · rw [if_pos hroom, Session.call_cons_of_room hroom, Session.cmdqPush_park]
    · rw [if_neg hroom, Session.call_cons_of_full (Nat.le_of_not_lt hroom)]
  case burst =>
    rw [← hlength] at hroom
    cases hqs : initQueries s.params s.core.clientAddr with
    | nil =>
      rw [hqs] at hexec hagenda
      have hstep : step s = .next { s with agenda := [] } := by
        rw [step_call hagenda]
        exact hexec []
      rw [List.append_nil]
      exact run_of_step 0 hstep
    | cons f fs =>
      rw [hqs] at hexec hroom hagenda
      rw [List.length_cons, Nat.add_sub_cancel, Nat.add_comm]
      exact run_call_callerTurns hexec hroom hagenda

/-- Settles O15: both builders are ENCODE with the fixed bytes filled in. -/
theorem buildersFillFrames : Obligations.BuildersFillFrames :=
  ⟨fun d r v s => ⟨checksum 0x01 s.core.clientAddr d r v, exec_buildWrite d r v s,
    checksum_toNat 0x01 s.core.clientAddr d r v⟩, fun _ _ => rfl⟩

/-- Settles O16: the filter's two byte comparisons, as propositions. -/
theorem forMeLooksAtDestinationOnly : Obligations.ForMeLooksAtDestinationOnly := by
  intro ev s
  rw [exec_forMe, forMe, Bool.decide_or]
  rfl

/-- Settles O30: a call of one frame with room leaves no caller behind. -/
theorem queryAndPushQueueOneFrame : Obligations.QueryAndPushQueueOneFrame := by
  intro s d r v hroom
  refine ⟨_, _, exec_buildQuery r s, ?_, exec_buildWrite d r v s, ?_⟩
  · rw [exec_query, Session.call_cons_of_room hroom, Session.cmdqPush_park, if_pos rfl]
  · rw [exec_cmdPush, Session.call_cons_of_room hroom, Session.cmdqPush_park, if_pos rfl]

/-- Settles O31: a call of two frames pushes the first or none. -/
theorem speedCommandPushesControllerFirst : Obligations.SpeedCommandPushesControllerFirst := by
  intro s n i reg h1 h8 hi
  refine ⟨speedRom n.toNat, _, _, exec_speedToValue_of_level ⟨h1, h8⟩ s, exec_buildWrite _ _ _ s,
    exec_buildWrite _ _ _ s, ?_⟩
  rw [exec_speedCommand_of_level ⟨h1, h8⟩ hi, speedFrames]
  split_ifs with hroom
  · rw [Session.call_cons_of_room hroom, Session.cmdqPush_park, if_neg (List.cons_ne_nil _ _)]
  · rw [Session.call_cons_of_full (Nat.le_of_not_lt hroom)]

/-- Settles O34: a call on a full CMDQ, a caller's turn with and without room, and EV_POP on an empty queue. -/
theorem hostWaitsForRoomOrEvents : Obligations.HostWaitsForRoomOrEvents := by
  refine ⟨fun s d r v hfull => ?wait, fun s k rest f fs hagenda hk => ?turn, fun s => exec_evPop_of_nil⟩
  case wait =>
    refine ⟨_, _, exec_buildQuery r s, ?_, exec_buildWrite d r v s, ?_⟩
    · rw [exec_query, Session.call_cons_of_full hfull]
    · rw [exec_cmdPush, Session.call_cons_of_full hfull]
  case turn =>
    rw [step_caller hagenda]
    by_cases hroom : s.core.cmdq.length < s.params.cmdqCap
    · rw [if_pos hroom, Session.resume_of_room hk hroom]
    · rw [if_neg hroom, Session.resume_of_full (Nat.le_of_not_lt hroom)]

/-- Settles O35: EV_POP on a queue with an oldest event, and STATUS. -/
theorem hostReadsEventsAndStatus : Obligations.HostReadsEventsAndStatus :=
  ⟨fun _ _ _ hevq => exec_evPop_of_cons hevq, exec_status⟩

end Sys2Proof.Machine
end

section
/-! SUPPORT. The errors and the agents (spec/60_exceptions.md): the dispositions of InvalidSpeedLevel and of a failed OPEN,
and the cells that each of the two loops may write. -/

namespace Sys2Proof.Machine

variable {s t : State} {i : Instr} {cfg : OpenConfig}

/-! ### InvalidSpeedLevel (spec/60_exceptions.md R274) -/

/-- The disposition of InvalidSpeedLevel, whatever register the command names: a DIAG record and no call. -/
theorem speedCommand_of_bad_level {n : Int} (h : ¬(1 ≤ n ∧ n ≤ 8)) (reg : Byte) (s : State) :
    speedCommand reg n s
      = .next { s with core := { s.core with diag := s.core.diag ++ [.invalidSpeedLevel n] } } := by
  rw [speedCommand, speedToValue_error h]
  rfl

/-- Settles O33: the three commands differ in the register alone, and a bad level never comes to it. -/
theorem badSpeedLevelQueuesNothing : Obligations.BadSpeedLevelQueuesNothing := by
  intro s n i hn hi
  have hbad : ¬(1 ≤ n ∧ n ≤ 8) := by omega
  refine ⟨.invalidSpeedLevel n, rfl, rfl, ?_⟩
  rcases hi with rfl | rfl | rfl <;> exact speedCommand_of_bad_level hbad _ s

/-! ### A failed OPEN (spec/60_exceptions.md R271, R277, R281) -/

theorem addrInRange_iff (a : Byte) : addrInRange a = true ↔ 0x20 ≤ a.toNat ∧ a.toNat ≤ 0x2F := by
  rw [addrInRange, Bool.and_eq_true, decide_eq_true_eq, decide_eq_true_eq]
  rfl

/-- The address is checked first: the transport has no part in this error. -/
theorem exec_openSession_of_bad_address (h : addrInRange (cfgClientAddr cfg) = false) (s : State) :
    exec (.openSession cfg) s = .next { s with ret := .error (.invalidAddress (cfgClientAddr cfg)) } := by
  simp only [exec, execOpenSession, h]
  rfl

/-- Only a transport that OPEN has to open itself can fail. -/
theorem transportError_of_closed {tr : Transport} (h : tr.isOpen = false) (s : State) :
    transportError s tr = s.openError tr.id := by
  simp only [transportError, h, Bool.false_eq_true, if_false]

/-- The transport's own error is handed on unchanged. -/
theorem exec_openSession_of_transportError {e : Nat} (haddr : addrInRange (cfgClientAddr cfg) = true)
    (he : transportError s cfg.transport = some e) :
    exec (.openSession cfg) s = .next { s with ret := .transportError e } := by
  simp only [exec, execOpenSession, haddr, he]
  rfl

/-- Settles O39: the address decides between the two errors. -/
theorem failedOpenChangesNothing : Obligations.FailedOpenChangesNothing := by
  rintro s cfg a rfl
  have hrange := addrInRange_iff (cfgClientAddr cfg)
  refine ⟨fun hout => ?badAddress, fun e hlo hhi hclosed herr => ?badTransport⟩
  case badAddress =>
    have haddr : addrInRange (cfgClientAddr cfg) = false :=
      Bool.eq_false_of_not_eq_true fun hin => by
        obtain ⟨hlo, hhi⟩ := hrange.1 hin
        exact hout.elim (Nat.not_lt_of_le hlo) (Nat.not_lt_of_le hhi)
    exact ⟨_, exec_openSession_of_bad_address haddr s, rfl, rfl⟩
  case badTransport =>
    have he : transportError s cfg.transport = some e := (transportError_of_closed hclosed s).trans herr
    exact ⟨_, exec_openSession_of_transportError (hrange.2 ⟨hlo, hhi⟩) he, rfl, rfl⟩

/-! ### What each loop may write (spec/60_exceptions.md R293) -/

/-- `c` with the cells that a step of RX may write as they are in `c'`: its own, EVQ, and the shared RUNNING,
LAST_ACTIVITY and transport. -/
def Session.withRxCells (c c' : Session) : Session :=
  { c with
    rxPhase := c'.rxPhase, rxbuf := c'.rxbuf, evr := c'.evr, evq := c'.evq
    running := c'.running, lastActivity := c'.lastActivity, line := c'.line }

/-- `c` with the cells that a step of TX may write as they are in `c'`: its own, CMDQ, the shared LAST_ACTIVITY, and what
it sends and records. -/
def Session.withTxCells (c c' : Session) : Session :=
  { c with
    txPhase := c'.txPhase, txf := c'.txf, txDeadline := c'.txDeadline, cmdq := c'.cmdq
    lastActivity := c'.lastActivity, wireOut := c'.wireOut, diag := c'.diag, stamps := c'.stamps }

/-- A guarded step writes no other cells than its effect does: `cells c c'` is `c` with certain cells as in `c'`. -/
theorem fire_writes {cells : Session → Session → Session} {g : Bool} {effect : Session → Session}
    (h : fire s g effect = .next t) (hself : cells s.core s.core = s.core)
    (heffect : cells s.core (effect s.core) = effect s.core) : t = { s with core := cells s.core t.core } := by
  rcases fire_cases h with ⟨-, rfl⟩ | ⟨-, rfl⟩
  · rw [State.onCore_core, heffect, State.onCore]
  · rw [hself]

/-- The seven steps of RX: what each writes is RX's to write. -/
theorem rxStep_writes (hi : rxPhaseOf i ≠ none) (h : exec i s = .next t) :
    t = { s with core := s.core.withRxCells t.core } := by
  cases i with
  | rxTop | rxScanEnd | rxEnq => exact fire_writes h rfl rfl
  | rxReadOk | rxReadFail | rxAccept | rxSlip =>
    simp only [exec, execRxReadOk, execRxReadFail, execRxAccept, execRxSlip] at h
    split at h
    · exact fire_writes h rfl rfl
    · cases h; rfl
  | _ => exact absurd rfl hi

/-- The seven steps of TX: what each writes is TX's to write. -/
theorem txStep_writes (hi : txPhaseOf i ≠ none) (h : exec i s = .next t) :
    t = { s with core := s.core.withTxCells t.core } := by
  cases i with
  | txTop | txGatePass | txGateDeny | txGapchk | txStamp | txWrite => exact fire_writes h rfl rfl
  | txDeq =>
    simp only [exec, execTxDeq] at h
    split at h
    · exact fire_writes h rfl rfl
    · cases h; rfl
  | _ => exact absurd rfl hi

/-- Settles O56: each clause is the list of the cells that the steps of one loop may write. -/
theorem loopsOwnTheirPrivateCells : Obligations.LoopsOwnTheirPrivateCells :=
  fun _ _ _ h => ⟨fun hrx => rxStep_writes hrx h, fun htx => txStep_writes htx h⟩

end Sys2Proof.Machine
end

section
/-! SUPPORT. The reset of the block, OPEN where the address is in range and the transport opens
(spec/70_reset_and_hazards.md R310, R311, R329): one equation for each of its three ends, and what LINE makes of the
transports' open steps (spec/60_exceptions.md R277). -/

namespace Sys2Proof.Machine

variable {s : State} {cfg : OpenConfig}

/-! ### The parts of OPEN -/

/-- A transport opens if it is handed over open or its own open step works. -/
theorem transportError_eq_none {tr : Transport} (h : tr.isOpen = true ∨ s.openError tr.id = none) :
    transportError s tr = none := by
  rcases h with hopen | hworks
  · exact if_pos hopen
  · rw [transportError, hworks, ite_self]

/-- With room for the catalogue, the whole init burst enters CMDQ of the new session. -/
theorem sendInit_configured_of_room (s : State) (cfg : OpenConfig)
    (hroom : s.params.catalog.length ≤ s.params.cmdqCap) :
    (configured s cfg).sendInit s.params = (openedSession s cfg, []) := by
  have hfits : (initQueries s.params (configured s cfg).clientAddr).length
      ≤ s.params.cmdqCap - (configured s cfg).cmdq.length := by
    simpa [initQueries, configured, newSession] using hroom
  rw [Session.sendInit, Session.pushAll_eq, List.take_of_length_le hfits, List.drop_of_length_le hfits]
  rfl

/-! ### The three ends of OPEN -/

theorem exec_openSession_of_taken (haddr : addrInRange (cfgClientAddr cfg) = true)
    (he : transportError s cfg.transport = none) (htaken : s.transportTaken cfg.transport.id = true) :
    exec (.openSession cfg) s = .refused .sharedTransport := by
  simp only [exec, execOpenSession, haddr, he, htaken, if_true]

theorem exec_openSession_of_room (haddr : addrInRange (cfgClientAddr cfg) = true)
    (he : transportError s cfg.transport = none) (hfree : s.transportTaken cfg.transport.id = false)
    (hroom : s.params.catalog.length ≤ s.params.cmdqCap) :
    exec (.openSession cfg) s
      = .next { s with core := openedSession s cfg, others := s.core :: s.others, ret := .session } := by
  simp only [exec, execOpenSession, haddr, he, hfree, sendInit_configured_of_room s cfg hroom]
  rfl

theorem exec_openSession_of_no_room (haddr : addrInRange (cfgClientAddr cfg) = true)
    (he : transportError s cfg.transport = none) (hfree : s.transportTaken cfg.transport.id = false)
    (hsmall : s.params.cmdqCap < s.params.catalog.length) :
    exec (.openSession cfg) s = .fault .openBlocked := by
  have hleft : ((configured s cfg).sendInit s.params).2 ≠ [] := fun hnil =>
    Nat.not_le_of_lt hsmall ((sendInit_configured_rest s cfg).1 hnil)
  obtain ⟨f, fs, hcons⟩ := List.exists_cons_of_ne_nil hleft
  have hburst : (configured s cfg).sendInit s.params = (((configured s cfg).sendInit s.params).1, f :: fs) :=
    Prod.ext rfl hcons
  simp only [exec, execOpenSession, haddr, he, hfree]
  rw [hburst]
  rfl

/-- Settles O40: a transport in use is seen before the init burst, and the burst is then the only other stop. -/
theorem openStopsOnSharedTransportOrSmallQueue : Obligations.OpenStopsOnSharedTransportOrSmallQueue := by
  rintro s cfg a rfl hlo hhi hopens
  have haddr : addrInRange (cfgClientAddr cfg) = true := (addrInRange_iff _).2 ⟨hlo, hhi⟩
  have he := transportError_eq_none hopens
  exact ⟨exec_openSession_of_taken haddr he, exec_openSession_of_no_room haddr he⟩

/-! ### What LINE makes of the open steps -/

/-- The error of an open step is found as before once those of another transport are taken out, and not found once its
own are. -/
theorem find?_filter_openErrors (errors : List (Nat × Nat)) (id j : Nat) :
    ((errors.filter fun e => e.1 != id).find? fun e => e.1 == j)
      = if j = id then none else errors.find? fun e => e.1 == j := by
  rw [List.find?_filter]
  split
  case isTrue h =>
    subst h
    simp
  case isFalse h =>
    congr 1
    funext e
    by_cases hej : e.1 = j <;> simp [hej, h]

theorem lineAct_openWorks_openError (s : State) (id j : Nat) :
    (lineAct (.openWorks id) s).openError j = if j = id then none else s.openError j := by
  rw [State.openError, lineAct, find?_filter_openErrors, apply_ite (Option.map Prod.snd)]
  rfl

/-- The new error stands before those of the other transports, which are left as `openWorks` leaves them. -/
theorem lineAct_openFails_openError (s : State) (id err j : Nat) :
    (lineAct (.openFails id err) s).openError j = if j = id then some err else s.openError j := by
  by_cases h : j = id
  · simp [State.openError, lineAct, h]
  · have hskip : (lineAct (.openFails id err) s).openError j = (lineAct (.openWorks id) s).openError j := by
      simp [State.openError, lineAct, Ne.symm h]
    rw [hskip, lineAct_openWorks_openError, if_neg h, if_neg h]

/-- Settles O38: an OPEN that meets no obstacle makes the opened session; a turn of LINE sets the open step of one
transport, which the next OPEN there reads. -/
theorem openMakesFreshSession : Obligations.OpenMakesFreshSession := by
  refine ⟨?fresh, fun _ _ _ => ⟨rfl, rfl, rfl, rfl, rfl⟩, ?line⟩
  case fresh =>
    rintro s cfg a rfl hlo hhi hopens hfree hroom
    have hexec := exec_openSession_of_room ((addrInRange_iff (cfgClientAddr cfg)).2 ⟨hlo, hhi⟩)
      (transportError_eq_none hopens) hfree hroom
    have hclock : (openedSession s cfg).lastActivity ≤ s.now := Nat.min_le_right _ _
    exact ⟨_, hexec, rfl, rfl, rfl, rfl, rfl, rfl, rfl, hclock, rfl, rfl, rfl, rfl, rfl, rfl, rfl, rfl, rfl, rfl⟩
  case line =>
    rintro s cfg a rest rfl hlo hhi hclosed
    have haddr : addrInRange (cfgClientAddr cfg) = true := (addrInRange_iff _).2 ⟨hlo, hhi⟩
    refine ⟨fun err hturn => ?fails, fun hturn hfree hroom => ?works⟩
    case fails =>
      have hopen := lineAct_openFails_openError { s with agenda := rest } cfg.transport.id err
      refine ⟨_, step_line hturn, rfl, fun j hj => (hopen j).trans (if_neg hj), ?_⟩
      exact exec_openSession_of_transportError haddr
        ((transportError_of_closed hclosed _).trans ((hopen _).trans (if_pos rfl)))
    case works =>
      have hopen := lineAct_openWorks_openError { s with agenda := rest } cfg.transport.id
      have hexec := exec_openSession_of_room haddr
        (transportError_eq_none (.inr ((hopen cfg.transport.id).trans (if_pos rfl)))) hfree hroom
      exact ⟨_, _, step_line hturn, rfl, fun j hj => (hopen j).trans (if_neg hj), hexec, rfl⟩

end Sys2Proof.Machine
end
